-- ==== Sys2Proof/Word.lean ====
section
/-! DEFINITION. The kinds of value of the core. The widths `W` and `C` are parameters (00_scope.md R9, R11), so a register
of State holds its value as a natural number (R24) and the ALU computes on bit vectors of `W` bits (log 9). -/

namespace Sys2Proof

/-- An ALU operand or result: `W` bits (R9, R190). -/
abbrev Word (w : Nat) := BitVec w

/-- A packed RGB value: `3*C` bits, as the natural number they encode (R11, R37, R198). -/
abbrev Rgb := Nat

/-- One byte of a persisted program (R124). -/
abbrev Byte := BitVec 8

end Sys2Proof
end

