-- ==== Sys2Proof/Syntax.lean ====
section
/-! DEFINITION. The instruction set as syntax: operand selectors, destinations and the eleven instructions, one
constructor per row of spec/opcode_table.json, and what the form of its word depends on. -/

namespace Sys2Proof

/-- What the instruction word and the instruction set depend on (R111 to R116, R120). -/
structure Format where
  /-- `G` (R10). -/
  g      : Nat
  /-- `W`, the width of the immediate (R9, R115). -/
  w      : Nat
  /-- `EXT_CMP` (R13). -/
  extCmp : Bool
deriving DecidableEq, Repr

/-- The format of pixtolic-canonical (R9, R10, R13). -/
def Format.canonical : Format := ⟨4, 32, true⟩

/-- An operand selector (R112). `G` is at most 7 (R10), so a register number is below 7; that it is below `G` is
checked by `Instr.wf`. -/
inductive Sel where
  /-- `GPn`: general-purpose register `n` of the lane. -/
  | gp (n : Fin 7)
  /-- `XPOS`: the lane's `x_coord`. -/
  | xpos
  /-- `YPOS`: the shared `y_coord`. -/
  | ypos
  /-- `FRAME`: `frame_counter`. -/
  | frame
  /-- `IMM`: the instruction's immediate. -/
  | imm
deriving DecidableEq, Repr

/-- A destination (R113). -/
inductive Dest where
  /-- `GPn`: general-purpose register `n` of the lane. -/
  | gp (n : Fin 7)
  /-- `OUTPUT`: the lane's output latch. -/
  | output
deriving DecidableEq, Repr

/-- The instructions (R114, R121). Each holds `left_op`, `right_op`, `dest` and `immediate`; every field is decoded and
kept for every opcode, also where the opcode does not use it (R117, R119). The immediate is the number that its `W` bits
encode (R115). -/
inductive Instr where
  /-- NOT (R220). -/
  | not (left right : Sel) (dest : Dest) (immediate : Nat)
  /-- AND (R221). -/
  | and (left right : Sel) (dest : Dest) (immediate : Nat)
  /-- OR (R222). -/
  | or  (left right : Sel) (dest : Dest) (immediate : Nat)
  /-- XOR (R223). -/
  | xor (left right : Sel) (dest : Dest) (immediate : Nat)
  /-- ADD (R240). -/
  | add (left right : Sel) (dest : Dest) (immediate : Nat)
  /-- SUB (R241). -/
  | sub (left right : Sel) (dest : Dest) (immediate : Nat)
  /-- EQ (R260). -/
  | eq  (left right : Sel) (dest : Dest) (immediate : Nat)
  /-- GT (R261). -/
  | gt  (left right : Sel) (dest : Dest) (immediate : Nat)
  /-- GTE (R262). -/
  | gte (left right : Sel) (dest : Dest) (immediate : Nat)
  /-- LT (R263). -/
  | lt  (left right : Sel) (dest : Dest) (immediate : Nat)
  /-- LTE (R264). -/
  | lte (left right : Sel) (dest : Dest) (immediate : Nat)
deriving DecidableEq, Repr

/-- The `left_op` of an instruction. -/
def Instr.left : Instr → Sel
  | .not l _ _ _ => l
  | .and l _ _ _ => l
  | .or l _ _ _ => l
  | .xor l _ _ _ => l
  | .add l _ _ _ => l
  | .sub l _ _ _ => l
  | .eq l _ _ _ => l
  | .gt l _ _ _ => l
  | .gte l _ _ _ => l
  | .lt l _ _ _ => l
  | .lte l _ _ _ => l

/-- The `right_op` of an instruction. -/
def Instr.right : Instr → Sel
  | .not _ r _ _ => r
  | .and _ r _ _ => r
  | .or _ r _ _ => r
  | .xor _ r _ _ => r
  | .add _ r _ _ => r
  | .sub _ r _ _ => r
  | .eq _ r _ _ => r
  | .gt _ r _ _ => r
  | .gte _ r _ _ => r
  | .lt _ r _ _ => r
  | .lte _ r _ _ => r

/-- The `dest` of an instruction. -/
def Instr.dest : Instr → Dest
  | .not _ _ d _ => d
  | .and _ _ d _ => d
  | .or _ _ d _ => d
  | .xor _ _ d _ => d
  | .add _ _ d _ => d
  | .sub _ _ d _ => d
  | .eq _ _ d _ => d
  | .gt _ _ d _ => d
  | .gte _ _ d _ => d
  | .lt _ _ d _ => d
  | .lte _ _ d _ => d

/-- The `immediate` of an instruction. -/
def Instr.immediate : Instr → Nat
  | .not _ _ _ v => v
  | .and _ _ _ v => v
  | .or _ _ _ v => v
  | .xor _ _ _ v => v
  | .add _ _ _ v => v
  | .sub _ _ _ v => v
  | .eq _ _ _ v => v
  | .gt _ _ _ v => v
  | .gte _ _ _ v => v
  | .lt _ _ _ v => v
  | .lte _ _ _ v => v

/-- Whether an instruction belongs to the optional comparison set (R13, R114). -/
def Instr.isCompare : Instr → Bool
  | .not _ _ _ _ => false
  | .and _ _ _ _ => false
  | .or _ _ _ _ => false
  | .xor _ _ _ _ => false
  | .add _ _ _ _ => false
  | .sub _ _ _ _ => false
  | .eq _ _ _ _ => true
  | .gt _ _ _ _ => true
  | .gte _ _ _ _ => true
  | .lt _ _ _ _ => true
  | .lte _ _ _ _ => true

end Sys2Proof
end

