-- ==== Sys2Proof/WellFormed.lean ====
section
/-! DEFINITION. Which instructions exist for `G` general-purpose registers, immediates of `W` bits, and with or without the
comparison set (R112 to R115, R118). -/

namespace Sys2Proof

/-- A selector names an operand source that exists: `GPn` only for `n < G` (R112, R43). -/
def Sel.wf (g : Nat) : Sel → Bool
  | .gp n  => decide (n.val < g)
  | .xpos  => true
  | .ypos  => true
  | .frame => true
  | .imm   => true

/-- A destination exists: `GPn` only for `n < G` (R113, R43). -/
def Dest.wf (g : Nat) : Dest → Bool
  | .gp n   => decide (n.val < g)
  | .output => true

/-- An instruction exists in a format (R118): both selectors and the destination exist, also those the opcode does not
use (R119), the immediate has `W` bits (R115), and a comparison needs `EXT_CMP` (R114). -/
def Instr.wf (f : Format) (i : Instr) : Bool :=
  i.left.wf f.g && i.right.wf f.g && i.dest.wf f.g && decide (i.immediate < 2 ^ f.w) && (f.extCmp || !i.isCompare)

end Sys2Proof
end

