-- ==== Sys2Proof/Decode.lean ====
section
/-! DEFINITION. Decoding a program word or its bytes to an instruction, by name where there is none, and the encoder
written from the same tables (30_encoding.md R110 to R124). -/

namespace Sys2Proof

/-- The least `b` with `n <= 2^b`, for `n >= 2` (R21, R116). -/
def ceilLog2 (n : Nat) : Nat := Nat.log2 (n - 1) + 1

/-- `LW`, the width of an operand selector (R111). -/
def selWidth (g : Nat) : Nat := ceilLog2 (g + 4)

/-- `DW`, the width of the destination field (R111). -/
def destWidth (g : Nat) : Nat := ceilLog2 (g + 1)

/-- `OW`, the width of the opcode field (R114). -/
def opcodeWidth : Nat := 4

/-- `IW`, the width of the immediate (R115). -/
def immWidth (f : Format) : Nat := f.w

/-- The position of `right_op` (R111). -/
def rightLo (g : Nat) : Nat := selWidth g
/-- The position of `dest` (R111). -/
def destLo (g : Nat) : Nat := 2 * selWidth g
/-- The position of `opcode` (R111). -/
def opcodeLo (g : Nat) : Nat := 2 * selWidth g + destWidth g
/-- The position of `immediate` (R111). -/
def immLo (g : Nat) : Nat := 2 * selWidth g + destWidth g + opcodeWidth

/-- `ILEN`, the length of an instruction (R21). -/
def ilen (f : Format) : Nat := 2 * selWidth f.g + destWidth f.g + opcodeWidth + immWidth f

/-- How many bytes a word is stored in (R124). -/
def storedBytes (f : Format) : Nat := (ilen f + 7) / 8

/-- The field of `len` bits of `w` that starts at bit `lo` (R24). -/
def bitField (w lo len : Nat) : Nat := w / 2 ^ lo % 2 ^ len

/-- The instruction record before its selectors are looked up (R110, R117). -/
structure Fields where
  left      : Nat
  right     : Nat
  dest      : Nat
  opcode    : Nat
  immediate : Nat
deriving DecidableEq, Repr

/-- The five fields of a word (R117). -/
def splitWord (f : Format) (w : Nat) : Fields where
  left      := bitField w 0 (selWidth f.g)
  right     := bitField w (rightLo f.g) (selWidth f.g)
  dest      := bitField w (destLo f.g) (destWidth f.g)
  opcode    := bitField w (opcodeLo f.g) opcodeWidth
  immediate := bitField w (immLo f.g) (immWidth f)

/-- Why a word or a string of bytes is no instruction. -/
inductive DecodeError where
  /-- Fewer bytes than a stored word has (R124). -/
  | tooFewBytes
  /-- A padding bit above `ILEN` is set (R110, R124). -/
  | paddingNotZero
  /-- `left_op` is `G+4` or more (R112, R118). -/
  | reservedLeftOp
  /-- `right_op` is `G+4` or more (R112, R118). -/
  | reservedRightOp
  /-- `dest` is above `G` (R113, R118). -/
  | reservedDest
  /-- `opcode` is above 10, or above 5 without `EXT_CMP` (R114, R118). -/
  | reservedOpcode
deriving DecidableEq, Repr

/-- The selector with number `v` (R112). -/
def decodeSel (g v : Nat) : Option Sel :=
  if h : v < g ∧ v < 7 then some (.gp ⟨v, h.2⟩)
  else if v = g then some .xpos
  else if v = g + 1 then some .ypos
  else if v = g + 2 then some .frame
  else if v = g + 3 then some .imm
  else none

/-- The destination with number `v` (R113). -/
def decodeDest (g v : Nat) : Option Dest :=
  if h : v < g ∧ v < 7 then some (.gp ⟨v, h.2⟩)
  else if v = g then some .output
  else none

/-- The instruction with opcode number `op` and the given fields (R114). -/
def instrOf (extCmp : Bool) (op : Nat) (l r : Sel) (d : Dest) (imm : Nat) : Option Instr :=
  match op with
  | 0 => some (.not l r d imm)
  | 1 => some (.and l r d imm)
  | 2 => some (.or l r d imm)
  | 3 => some (.xor l r d imm)
  | 4 => some (.add l r d imm)
  | 5 => some (.sub l r d imm)
  | 6 => if extCmp then some (.eq l r d imm) else none
  | 7 => if extCmp then some (.gt l r d imm) else none
  | 8 => if extCmp then some (.gte l r d imm) else none
  | 9 => if extCmp then some (.lt l r d imm) else none
  | 10 => if extCmp then some (.lte l r d imm) else none
  | _ => none

/-- The instruction of a record of fields, refused by name where a field is reserved (R118). -/
def decodeFields (f : Format) (x : Fields) : Except DecodeError Instr :=
  match decodeSel f.g x.left with
  | none => .error .reservedLeftOp
  | some l =>
    match decodeSel f.g x.right with
    | none => .error .reservedRightOp
    | some r =>
      match decodeDest f.g x.dest with
      | none => .error .reservedDest
      | some d =>
        match instrOf f.extCmp x.opcode l r d x.immediate with
        | none => .error .reservedOpcode
        | some i => .ok i

/-- Decoding a word (R117): it has `ILEN` bits (R110; log 14) and its fields name an instruction (R118). -/
def decodeWord (f : Format) (w : Nat) : Except DecodeError Instr :=
  if w < 2 ^ ilen f then decodeFields f (splitWord f w) else .error .paddingNotZero

/-- The number that bytes encode, the least significant one first (R124). -/
def natOfBytes : List Byte → Nat
  | [] => 0
  | b :: rest => b.toNat + 2 ^ 8 * natOfBytes rest

/-- A word stored in `n` bytes, from the front of a string of bytes (R124), and the bytes after it. -/
def wordOfBytes (n : Nat) (bs : List Byte) : Option (Nat × List Byte) :=
  if n ≤ bs.length then some (natOfBytes (bs.take n), bs.drop n) else none

/-- The `n` bytes of a stored word, byte `k` holding bits `[8k+7 : 8k]` (R124). -/
def bytesOfWord (n w : Nat) : List Byte := (List.range n).map fun k => BitVec.ofNat 8 (bitField w (8 * k) 8)

/-- Decoding any string of bytes: the instruction at its front and the bytes left over, or the reason there is none. -/
def decodeBytes (f : Format) (bs : List Byte) : Except DecodeError (Instr × List Byte) :=
  match wordOfBytes (storedBytes f) bs with
  | none => .error .tooFewBytes
  | some (w, rest) =>
    match decodeWord f w with
    | .error e => .error e
    | .ok i => .ok (i, rest)

/-- The instruction the decoder reads from the table's word `w` of `nbits` bits, for pixtolic-canonical: the word is
stored as its six bytes and the bytes are decoded (R122, R124). -/
def decodeTableWord (nbits w : Nat) : Option Instr :=
  match decodeBytes .canonical (bytesOfWord (storedBytes .canonical) (w % 2 ^ nbits)) with
  | .ok (i, _) => some i
  | .error _ => none

/-- The number of a selector (R112). -/
def encodeSel (g : Nat) : Sel → Nat
  | .gp n  => n.val
  | .xpos  => g
  | .ypos  => g + 1
  | .frame => g + 2
  | .imm   => g + 3

/-- The number of a destination (R113). -/
def encodeDest (g : Nat) : Dest → Nat
  | .gp n   => n.val
  | .output => g

/-- The number of an opcode (R114). -/
def Instr.opcode : Instr → Nat
  | .not _ _ _ _ => 0
  | .and _ _ _ _ => 1
  | .or _ _ _ _ => 2
  | .xor _ _ _ _ => 3
  | .add _ _ _ _ => 4
  | .sub _ _ _ _ => 5
  | .eq _ _ _ _ => 6
  | .gt _ _ _ _ => 7
  | .gte _ _ _ _ => 8
  | .lt _ _ _ _ => 9
  | .lte _ _ _ _ => 10

/-- The record of an instruction's fields (R110). -/
def encodeFields (g : Nat) (i : Instr) : Fields where
  left      := encodeSel g i.left
  right     := encodeSel g i.right
  dest      := encodeDest g i.dest
  opcode    := i.opcode
  immediate := i.immediate

/-- The word with the given fields, each at its place (R111). -/
def joinFields (g : Nat) (x : Fields) : Nat :=
  x.left + 2 ^ rightLo g * x.right + 2 ^ destLo g * x.dest + 2 ^ opcodeLo g * x.opcode + 2 ^ immLo g * x.immediate

/-- The word of an instruction (R111 to R115). -/
def encodeWord (g : Nat) (i : Instr) : Nat := joinFields g (encodeFields g i)

/-- The bytes of an instruction (R124). -/
def encodeBytes (f : Format) (i : Instr) : List Byte := bytesOfWord (storedBytes f) (encodeWord f.g i)

end Sys2Proof
end

