-- ==== Sys2Proof/Config.lean ====
section
/-! DEFINITION. The configuration of the core (00_scope.md R8 to R22) as plain data, the reasons it can be refused for
(60_exceptions.md R385), and the free values: opaque constants for what the spec leaves open. -/

namespace Sys2Proof

/-- The timing of one axis, in pixel-clock cycles or in lines (R8). -/
structure ScanTimings where
  syncPulse  : Nat
  backPorch  : Nat
  visible    : Nat
  frontPorch : Nat
deriving DecidableEq, Repr

/-- The Resolution descriptor `RES` (R8). No rule reads `pixelClockHz` (R152, R386). -/
structure Resolution where
  pixelClockHz : Nat
  h : ScanTimings
  v : ScanTimings
deriving DecidableEq, Repr

/-- `RGB_ORDER` (R16): the channels named from the least significant slice upward, so `rgb` is the canonical
R = bits [C-1:0], G = bits [2C-1:C], B = bits [3C-1:2C]. -/
inductive RgbOrder where
  | rgb | rbg | grb | gbr | brg | bgr
deriving DecidableEq, Repr

/-- The Still generator's read-only pixel table `IMG` (R19, R84): how many entries it has, and its entries in one
canonical form: indices strictly rising, each below `size`, none black, an unlisted entry reading as 0 (log 6). -/
structure Image where
  size  : Nat
  cells : List (Nat × Rgb)
deriving DecidableEq, Repr

/-- The configuration: the arguments of the model (R8 to R22, R396), fixed before reset is released and never changed
while the core runs (R29, R46). -/
structure Config where
  /-- `RES` (R8). -/
  res            : Resolution
  /-- `W`, the register width (R9). -/
  regWidth       : Nat
  /-- `G`, GP registers per lane (R10). -/
  g              : Nat
  /-- `C`, the colour depth of one channel (R11). -/
  colorDepth     : Nat
  /-- `N`, the stride and the number of lanes (R12). -/
  n              : Nat
  /-- `EXT_CMP`, whether the comparison opcodes exist (R13). -/
  extCmp         : Bool
  /-- `P`, the program length (R14). -/
  p              : Nat
  /-- `PROG`, the program table (R14, R110). -/
  prog           : List Nat
  /-- `CMP_SIGNED` (R15). -/
  cmpSigned      : Bool
  /-- `RGB_ORDER` (R16). -/
  rgbOrder       : RgbOrder
  /-- `HSYNC_ACTIVE_LOW` (R17). -/
  hsyncActiveLow : Bool
  /-- `VSYNC_ACTIVE_LOW` (R17). -/
  vsyncActiveLow : Bool
  /-- `GP_FRAME_RESET` (R18). -/
  gpFrameReset   : Bool
  /-- `FW`, the width of `frame_counter` (R22). -/
  frameWidth     : Nat
  /-- Whether the Pixel Processor is instantiated (R353; log 13). -/
  pixelProcessor : Bool
  /-- Whether the Test Pattern generator is instantiated (R353, R389). -/
  testPattern    : Bool
  /-- `TP_PATTERN`, one 3-bit gate pattern per cell row (R20, R345). -/
  tpPattern      : Vector (BitVec 3) 8
  /-- Whether the Still generator is instantiated (R353, R390). -/
  still          : Bool
  /-- `IMG` (R19, R352). -/
  img            : Image
deriving DecidableEq, Repr

/-- The two axes of a Resolution, as `BadTiming` names them (R385, R386). -/
inductive Axis where
  | h | v
deriving DecidableEq, Repr

/-- The fields of ScanTimings, as `BadTiming` names them (R385, R386). -/
inductive TimingField where
  | syncPulse | backPorch | visible | frontPorch
deriving DecidableEq, Repr

/-- The parameters `BadParameter` can name (R385, R391). -/
inductive Param where
  | w | g | c | n | fw
deriving DecidableEq, Repr

/-- The reasons a configuration is refused for (the table of R385). -/
inductive ConfigError where
  /-- A ScanTimings field out of range (R386). -/
  | badTiming (axis : Axis) (field : TimingField)
  /-- `W`, `G`, `C`, `N` or `FW` out of range (R391). -/
  | badParameter (name : Param)
  /-- `P` out of `[1, N]`, or the table not `P` words of `ILEN` bits (R387). -/
  | programSize
  /-- A word with a reserved field value; `index` is the first such word's (R387). -/
  | invalidInstruction (index : Nat)
  /-- `width mod N != 0` (R388). -/
  | strideNotDivisor
  /-- Cell width or height 0 (R389). -/
  | testPatternTooSmall
  /-- `IMG` does not have exactly `width*height` entries (R390). -/
  | imageSize
deriving DecidableEq, Repr

/-- Free value (log 3): the OPEN parameter `CMP_SIGNED` (R15) of the configuration in force at `State.reset`. -/
opaque Config.openCmpSigned : Bool
/-- Free value (log 3): the OPEN parameter `HSYNC_ACTIVE_LOW` (R17) of the configuration in force at `State.reset`. -/
opaque Config.openHsyncActiveLow : Bool
/-- Free value (log 3): the OPEN parameter `VSYNC_ACTIVE_LOW` (R17) of the configuration in force at `State.reset`. -/
opaque Config.openVsyncActiveLow : Bool
/-- Free value (log 3): the OPEN parameter `GP_FRAME_RESET` (R18) of the configuration in force at `State.reset`. -/
opaque Config.openGpFrameReset : Bool

/-- Free value (log 8): which of several failing checks of a configuration is reported, as an index into them taken
modulo their number (R385: "a model may report any one of them"). -/
opaque Config.reportedReason : Config → Nat

/-- Free value (log 10): what a coordinate of `2^W` or more reads as when it is an operand, for each `W`. R192 says that none is so
large, and no check of R386 keeps it so. -/
opaque Config.wideCoordinate : (w : Nat) → Nat → Word w

end Sys2Proof
end

