-- ==== Sys2Proof/Machine/Presets.lean ====
section
/-! DEFINITION. The six Resolution presets (40_timing_generator.md R151) and the configuration pixtolic-canonical
(00_scope.md R2, R8 to R22). -/

namespace Sys2Proof

/-- VGA 640×480@60 (R151). -/
def Resolution.vga640x480 : Resolution := ⟨25175000, ⟨96, 48, 640, 16⟩, ⟨2, 33, 480, 10⟩⟩
/-- SVGA 800×600@60 (R151). -/
def Resolution.svga800x600 : Resolution := ⟨40000000, ⟨128, 88, 800, 40⟩, ⟨4, 23, 600, 1⟩⟩
/-- XGA 1024×768@60 (R151). -/
def Resolution.xga1024x768 : Resolution := ⟨65000000, ⟨136, 160, 1024, 24⟩, ⟨6, 29, 768, 3⟩⟩
/-- VESA 1280×960@60 (R151: the literal as the source gives it). -/
def Resolution.vesa1280x960 : Resolution := ⟨108000000, ⟨136, 216, 1280, 80⟩, ⟨3, 30, 960, 1⟩⟩
/-- VESA 1280×1024@60 (R151). -/
def Resolution.vesa1280x1024 : Resolution := ⟨108000000, ⟨112, 248, 1280, 48⟩, ⟨3, 38, 1024, 1⟩⟩
/-- VESA 1600×1200@60 (R151). -/
def Resolution.vesa1600x1200 : Resolution := ⟨162000000, ⟨192, 304, 1600, 64⟩, ⟨3, 46, 1200, 1⟩⟩

/-- The six presets, in the order of R151. -/
def presets : List Resolution :=
  [.vga640x480, .svga800x600, .xga1024x768, .vesa1280x960, .vesa1280x1024, .vesa1600x1200]

/-- An image table of `size` black entries. -/
def Image.black (size : Nat) : Image := ⟨size, []⟩

/-- The canonical `TP_PATTERN[r] = r` (R20, R345). -/
def canonicalPattern : Vector (BitVec 3) 8 := #v[0, 1, 2, 3, 4, 5, 6, 7]

/-- pixtolic-canonical (R2) at the 640×480 preset with every block instantiated and no program loaded. The OPEN
parameters are free values; the resolution, the black image and the empty program are the model's choices
(log 2, 3, 5, 6). -/
def Config.canonical : Config where
  res            := .vga640x480
  regWidth       := 32
  g              := 4
  colorDepth     := 4
  n              := 8
  extCmp         := true
  p              := 0
  prog           := []
  cmpSigned      := Config.openCmpSigned
  rgbOrder       := .rgb
  hsyncActiveLow := Config.openHsyncActiveLow
  vsyncActiveLow := Config.openVsyncActiveLow
  gpFrameReset   := Config.openGpFrameReset
  frameWidth     := 32
  pixelProcessor := true
  testPattern    := true
  tpPattern      := canonicalPattern
  still          := true
  img            := .black (640 * 480)

end Sys2Proof
end

