-- ==== Sys2Proof/Machine/State.lean ====
section
/-! DEFINITION. The machine's state as plain data (10_state.md R30 to R42), the configuration it runs under, the inputs
of the coming edges, and why a step can stop. -/

namespace Sys2Proof.Machine

/-- One lane of the Pixel Processor (R35 to R37). Its values of `W` and `3*C` bits are held as the numbers they encode
(log 9). -/
structure Lane where
  /-- `x_coord_l` (R35). -/
  xCoord : Nat
  /-- `gp_l[0..G-1]` (R36, R43). -/
  gp     : List Nat
  /-- `out_l` (R37). -/
  out    : Rgb
deriving DecidableEq, Repr

/-- What the consumer puts on `adv` at one edge (R291, R320). -/
inductive AdvRequest where
  /-- The reference consumer's rule (R320). -/
  | reference
  /-- This value. -/
  | request (adv : Bool)
deriving DecidableEq, Repr

/-- The inputs of one edge (R396): `rst` (R411) and `adv` (R291). -/
structure TickInput where
  rst : Bool
  adv : AdvRequest
deriving DecidableEq, Repr

/-- The state of the core (10_state.md §1), with its configuration, which no step changes (R46; log 1), and the inputs
of the coming edges, the next one first (the model's own field; log 4). -/
structure State where
  cfg          : Config
  /-- `scan_counter` (R30). -/
  scanCounter  : Nat
  /-- `line_counter` (R31). -/
  lineCounter  : Nat
  /-- `pc` (R32). -/
  pc           : Nat
  /-- `y_coord` (R33). -/
  yCoord       : Nat
  /-- `frame_counter`, of `FW` bits (R34). -/
  frameCounter : Nat
  /-- Lanes `0..N-1` (R35 to R37, R290). -/
  lanes        : List Lane
  /-- `pix_count` (R38). -/
  pixCount     : Nat
  /-- `line_count` (R39). -/
  lineCount    : Nat
  /-- `cell_col_count` (R40). -/
  cellColCount : Nat
  /-- `cell_row_count` (R41). -/
  cellRowCount : BitVec 3
  /-- `sx` (R42). -/
  sx           : Nat
  /-- `sy` (R42). -/
  sy           : Nat
  inputs       : List TickInput
deriving DecidableEq, Repr

/-- The faults. The core has no run-time error (R380), so the one fault stands only for states outside the ranges of
10_state.md, which no run reaches. -/
inductive Fault where
  /-- Raised by the step when `pc` is not in `[0, P)` or the word there does not decode, where `MemRead(PROG, pc)` is not
  defined (R26, R292; log 11). Safe: the spec rules these states out, and the model only stops in them. -/
  | fetchOutsideProgram
deriving DecidableEq, Repr

/-- The refusals. -/
inductive Refusal where
  /-- Raised by an arm of `exec` for an instruction that has no meaning yet. Safe: the model only stops. -/
  | notModelled (mnemonic : String)
  /-- `refuse Config(reason)` (R384, R385): raised by the step when the configuration fails a check. Safe: the spec says
  that the system never runs with it. -/
  | config (reason : ConfigError)
deriving DecidableEq, Repr

/-- A lane after reset, with `G` registers (R412). -/
def Lane.reset (g : Nat) : Lane := ⟨0, List.replicate g 0, 0⟩

/-- The machine right after reset under a configuration: every register 0 (R412), and the given inputs to come. -/
def State.resetWith (cfg : Config) (inputs : List TickInput) : State where
  cfg          := cfg
  scanCounter  := 0
  lineCounter  := 0
  pc           := 0
  yCoord       := 0
  frameCounter := 0
  lanes        := List.replicate cfg.n (Lane.reset cfg.g)
  pixCount     := 0
  lineCount    := 0
  cellColCount := 0
  cellRowCount := 0
  sx           := 0
  sy           := 0
  inputs       := inputs

/-- The machine right after reset (R412) under pixtolic-canonical, with no program loaded (log 2, 5) and no input
scheduled (log 4). -/
def State.reset : State := State.resetWith Config.canonical []

end Sys2Proof.Machine
end

