-- ==== Sys2Proof/Machine/Timing.lean ====
section
/-! DEFINITION. The Timing Generator: the signals derived from the two counters and the counter step
(40_timing_generator.md R150 to R171). -/

namespace Sys2Proof

/-- `prescan` of one axis (R27). -/
def ScanTimings.prescan (t : ScanTimings) : Nat := t.syncPulse + t.backPorch
/-- `overscan` of one axis (R27). -/
def ScanTimings.overscan (t : ScanTimings) : Nat := t.prescan + t.frontPorch
/-- `fullscan` of one axis (R27). -/
def ScanTimings.fullscan (t : ScanTimings) : Nat := t.overscan + t.visible

/-- `width` (R8). -/
def Config.width (c : Config) : Nat := c.res.h.visible
/-- `height` (R8). -/
def Config.height (c : Config) : Nat := c.res.v.visible

namespace Machine

/-- `h_active` (R160). -/
def State.hActive (s : State) : Bool :=
  decide (s.cfg.res.h.prescan ≤ s.scanCounter) && decide (s.scanCounter < s.cfg.res.h.prescan + s.cfg.width)

/-- `v_active` (R161). -/
def State.vActive (s : State) : Bool :=
  decide (s.cfg.res.v.prescan ≤ s.lineCounter) && decide (s.lineCounter < s.cfg.res.v.prescan + s.cfg.height)

/-- `hsync`, the logical assertion (R162). -/
def State.hsync (s : State) : Bool := decide (s.scanCounter < s.cfg.res.h.syncPulse)

/-- `vsync`, the logical assertion (R163). -/
def State.vsync (s : State) : Bool := decide (s.lineCounter < s.cfg.res.v.syncPulse)

/-- `active` (R164). -/
def State.active (s : State) : Bool := s.hActive && s.vActive

/-- A counter's coordinate: 0 before the window, the distance from its start inside it, clamped to its extent after it
(R165, R166). -/
def clampPos (prescan extent counter : Nat) : Nat :=
  if counter < prescan then 0
  else if counter < prescan + extent then counter - prescan
  else extent

/-- `x_pos`, from `scan_counter` alone (R165). -/
def State.xPos (s : State) : Nat := clampPos s.cfg.res.h.prescan s.cfg.width s.scanCounter

/-- `y_pos`, from `line_counter` alone (R166). -/
def State.yPos (s : State) : Nat := clampPos s.cfg.res.v.prescan s.cfg.height s.lineCounter

/-- `new_line` (R167). -/
def State.newLine (s : State) : Bool := s.scanCounter == s.cfg.res.h.prescan && s.vActive

/-- `new_frame` (R168). -/
def State.newFrame (s : State) : Bool :=
  s.scanCounter == s.cfg.res.h.prescan && s.lineCounter == s.cfg.res.v.prescan

/-- The level of the hsync pin, 1 = high (R170). -/
def State.hsyncPin (s : State) : Bool := s.hsync ^^ s.cfg.hsyncActiveLow

/-- The level of the vsync pin, 1 = high (R170). -/
def State.vsyncPin (s : State) : Bool := s.vsync ^^ s.cfg.vsyncActiveLow

/-- Whether the edge ends a line: `scan_counter` wraps (R153). -/
def State.scanWraps (s : State) : Bool := s.scanCounter == s.cfg.res.h.fullscan - 1

/-- The horizontal step (R153). -/
def State.nextScan (s : State) : Nat := if s.scanWraps then 0 else s.scanCounter + 1

/-- The vertical step: `line_counter` advances exactly when `scan_counter` wraps (R154). -/
def State.nextLine (s : State) : Nat :=
  if s.scanWraps then
    if s.lineCounter == s.cfg.res.v.fullscan - 1 then 0 else s.lineCounter + 1
  else s.lineCounter

end Machine

end Sys2Proof
end

