-- ==== Sys2Proof/Machine/Check.lean ====
section
/-! DEFINITION. The configuration checks (60_exceptions.md R384 to R391) and the reason a refused configuration is
reported with. -/

namespace Sys2Proof

/-- The format of the configuration's instruction words. -/
def Config.format (c : Config) : Format := ⟨c.g, c.regWidth, c.extCmp⟩

/-- Cell width `cw` of the Test Pattern grid (R341). -/
def Config.cellWidth (c : Config) : Nat := c.width / 2 ^ c.colorDepth
/-- Cell height `ch` of the Test Pattern grid (R341). -/
def Config.cellHeight (c : Config) : Nat := c.height / 8

/-- The failing checks of one axis (R386). `front_porch` may be 0. -/
def timingErrors (a : Axis) (t : ScanTimings) : List ConfigError :=
  (if 0 < t.syncPulse then [] else [.badTiming a .syncPulse]) ++
  (if 0 < t.backPorch then [] else [.badTiming a .backPorch]) ++
  (if 0 < t.visible then [] else [.badTiming a .visible])

/-- `G` is a register count the model has a word layout for (R10, R116, R391). -/
def Config.gOk (c : Config) : Bool := decide (4 ≤ c.g) && decide (c.g ≤ 7)

/-- The failing checks of the parameters (R391). -/
def parameterErrors (c : Config) : List ConfigError :=
  (if 3 * c.colorDepth ≤ c.regWidth then [] else [.badParameter .w]) ++
  (if c.gOk then [] else [.badParameter .g]) ++
  (if 1 ≤ c.colorDepth then [] else [.badParameter .c]) ++
  (if 1 ≤ c.n then [] else [.badParameter .n]) ++
  (if c.frameWidth = c.regWidth then [] else [.badParameter .fw])

/-- A word's fields are all valid (R118). -/
def validFields (f : Format) (w : Nat) : Bool :=
  match decodeFields f (splitWord f w) with
  | .ok _ => true
  | .error _ => false

/-- The program table has `P` words of `ILEN` bits, and `P` is in `[1, N]` (R387). The length of a word is defined only
for the register counts of R116 (log 20). -/
def Config.programSizeOk (c : Config) : Bool :=
  decide (1 ≤ c.p) && decide (c.p ≤ c.n) && c.prog.length == c.p &&
    (!c.gOk || c.prog.all fun w => decide (w < 2 ^ ilen c.format))

/-- The failing checks of the program (R387): its size, and the first word with a reserved field. -/
def programErrors (c : Config) : List ConfigError :=
  (if c.programSizeOk then [] else [.programSize]) ++
  (if c.gOk then
    match c.prog.findIdx? fun w => !validFields c.format w with
    | none => []
    | some k => [.invalidInstruction k]
  else [])

/-- The failing check of the stride (R388). DESIGN CHOICE (log 22): the spec gives no `width mod 0`, and at `N = 0`, which
R391 refuses, the model counts this check as failing unless `width` is 0, as Lean's `width % 0 = width` has it. -/
def strideErrors (c : Config) : List ConfigError :=
  if c.width % c.n = 0 then [] else [.strideNotDivisor]

/-- The failing check of the Test Pattern geometry, where that generator is instantiated (R389). -/
def testPatternErrors (c : Config) : List ConfigError :=
  if !c.testPattern || (decide (1 ≤ c.cellWidth) && decide (1 ≤ c.cellHeight)) then [] else [.testPatternTooSmall]

/-- The failing check of the image table, where the Still generator is instantiated (R390): the number of its entries,
and that each has `3*C` bits. -/
def imageErrors (c : Config) : List ConfigError :=
  if !c.still || (c.img.size == c.width * c.height && c.img.cells.all fun e => decide (e.2 < 2 ^ (3 * c.colorDepth)))
  then [] else [.imageSize]

/-- Every failing check of a configuration (R384 to R391); none if it may run. -/
def configErrors (c : Config) : List ConfigError :=
  timingErrors .h c.res.h ++ timingErrors .v c.res.v ++ parameterErrors c ++ programErrors c ++ strideErrors c ++
    testPatternErrors c ++ imageErrors c

/-- The reason reported for a configuration whose failing checks are `e` and `es`: the only one, or a free choice among
them (R385; log 8). -/
def reportedError (c : Config) (e : ConfigError) (es : List ConfigError) : ConfigError :=
  match es with
  | [] => e
  | _ :: _ => (e :: es).getD (Config.reportedReason c % (es.length + 1)) e

end Sys2Proof
end

