-- ==== Sys2Proof/Machine/Operands.lean ====
section
/-! DEFINITION. The operand multiplexer (41_alu_datapath.md R191 to R193) and its binding in the Pixel Processor
(45_pixel_processor.md R293). -/

namespace Sys2Proof.Machine

/-- `zext_W` of a coordinate (R192): the coordinate itself below `2^W`. R192 says that every coordinate is; a larger one
reads as a free value (log 10). -/
def zextCoordinate (w v : Nat) : Word w :=
  if v < 2 ^ w then BitVec.ofNat w v else Config.wideCoordinate w v

/-- `gp_l[n]`, read (R26, R43). -/
def Lane.readGp (ln : Lane) (n : Fin 7) : Nat := ln.gp.getD n.val 0

/-- `pick_operand` (R191), with `x`, `gp` the lane's and `y`, `frame` shared (R293). A register, the frame number and the
immediate are `W`-bit values (R9, R22, R115). -/
def pickOperand (w : Nat) (sel : Sel) (imm y frame : Nat) (ln : Lane) : Word w :=
  match sel with
  | .gp n  => BitVec.ofNat w (ln.readGp n)
  | .xpos  => zextCoordinate w ln.xCoord
  | .ypos  => zextCoordinate w y
  | .frame => BitVec.ofNat w frame
  | .imm   => BitVec.ofNat w imm

/-- An operand of a lane in a state: `x_coord_l`, `y_coord` and `frame_counter` are the ALU's inputs (R293). -/
def State.operand (s : State) (sel : Sel) (imm : Nat) (ln : Lane) : Word s.cfg.regWidth :=
  pickOperand s.cfg.regWidth sel imm s.yCoord s.frameCounter ln

end Sys2Proof.Machine
end

