-- ==== Sys2Proof/Machine/Ops.lean ====
section
/-! DEFINITION. The named operations over the two tables and the lanes' registers: reading PROG and IMG, the host's
loads, the fetch, the commit, one instruction in all lanes, and the reset edge. The core has no exception entry or return
to model (60_exceptions.md R380, R381, R383): the reset edge is its only diversion. -/

namespace Sys2Proof

/-- The entry listed at `k`; an unlisted entry is 0, black (log 6). -/
def lookupCell : List (Nat × Rgb) → Nat → Rgb
  | [], _ => 0
  | (a, v) :: rest, k => if a = k then v else lookupCell rest k

/-- An entry at the front, where it is not black. -/
def putCell (k : Nat) (v : Rgb) (rest : List (Nat × Rgb)) : List (Nat × Rgb) :=
  if v = 0 then rest else (k, v) :: rest

/-- Entry `k` becomes `v`, the list keeping its canonical form. -/
def setCell : List (Nat × Rgb) → Nat → Rgb → List (Nat × Rgb)
  | [], k, v => putCell k v []
  | (a, u) :: rest, k, v =>
    if k < a then putCell k v ((a, u) :: rest)
    else if k = a then putCell k v rest
    else (a, u) :: setCell rest k v

/-- Indices strictly rising from `lo`, each below `size`, no entry black. -/
def cellsWf (size : Nat) : Nat → List (Nat × Rgb) → Bool
  | _, [] => true
  | lo, (a, v) :: rest => decide (lo ≤ a) && decide (a < size) && !(v == 0) && cellsWf size (a + 1) rest

/-- The image table is in its canonical form (log 6). -/
def Image.wf (m : Image) : Bool := cellsWf m.size 0 m.cells

/-- `MemRead(IMG, k)` (R26, R84); an index outside the table reads 0 (R85). -/
def Image.read (m : Image) (k : Nat) : Rgb := if k < m.size then lookupCell m.cells k else 0

/-- The host's load of one entry before reset is released (R352, R415); no step writes the table (R84). -/
def Image.load (m : Image) (k : Nat) (v : Rgb) : Image :=
  if k < m.size then { m with cells := setCell m.cells k v } else m

/-- The host's load of entries from `k` on. -/
def Image.loadFrom (m : Image) : Nat → List Rgb → Image
  | _, [] => m
  | k, v :: vs => (m.load k v).loadFrom (k + 1) vs

/-- The host's load of a program (R93, R415): the table and its length. -/
def Config.loadProgram (c : Config) (ws : List Nat) : Config := { c with p := ws.length, prog := ws }

namespace Machine

/-- `MemRead(PROG, pc)`, where `pc` is in the table (R26, R292). -/
def State.fetchWord (s : State) : Option Nat := s.cfg.prog[s.pc]?

/-- The instruction shared by all lanes in this tick (R292), where there is one. -/
def State.fetch (s : State) : Option Instr :=
  match s.fetchWord with
  | none => none
  | some w =>
    match decodeWord s.cfg.format w with
    | .ok i => some i
    | .error _ => none

/-- `pack`: the low `3*C` bits of a result, for colour depth `C = c` (R198). -/
def pack (c : Nat) {w : Nat} (result : Word w) : Rgb := bitField result.toNat 0 (3 * c)

/-- The commit of one lane, for colour depth `C = c` (R197): the output latch or one GP register, whole. -/
def Lane.commit (ln : Lane) (c : Nat) (d : Dest) {w : Nat} (result : Word w) : Lane :=
  match d with
  | .output => { ln with out := pack c result }
  | .gp n   => { ln with gp := ln.gp.set n.val result.toNat }

/-- One instruction in every lane (R294): each lane computes its result from its own operands in the snapshot and
commits it. -/
def State.runLanes (s : State) (op : Word s.cfg.regWidth → Word s.cfg.regWidth → Word s.cfg.regWidth) (l r : Sel)
    (d : Dest) (imm : Nat) : State :=
  { s with lanes := s.lanes.map fun ln => ln.commit s.cfg.colorDepth d (op (s.operand l imm ln) (s.operand r imm ln)) }

/-- The inputs of the coming edge: the next scheduled ones, or no reset and the reference consumer (log 4). -/
def State.input (s : State) : TickInput := s.inputs.headD ⟨false, .reference⟩

/-- `rst` at the coming edge (R411). -/
def State.rst (s : State) : Bool := s.input.rst

/-- The edge of an asserted reset: every register takes its reset value, whatever else holds (R410, R412). The
configuration and the tables are not touched. -/
def State.resetEdge (s : State) : State := State.resetWith s.cfg s.inputs.tail

end Machine

end Sys2Proof
end

