-- ==== Sys2Proof/Machine/Arith.lean ====
section
/-! DEFINITION. The arithmetic instructions (43_alu_arith.md R240, R241): modulo `2^W`, with no carry, borrow or overflow
recorded (R242). -/

namespace Sys2Proof.Machine

/-- ADD (R240). -/
def execAdd (l r : Sel) (d : Dest) (imm : Nat) (s : State) : Host.Outcome State Fault Refusal :=
  .next (s.runLanes (fun a b => a + b) l r d imm)

/-- SUB: left minus right (R241; 90_conflicts.md C1). -/
def execSub (l r : Sel) (d : Dest) (imm : Nat) (s : State) : Host.Outcome State Fault Refusal :=
  .next (s.runLanes (fun a b => a - b) l r d imm)

end Sys2Proof.Machine
end

