-- ==== Sys2Proof/Machine/Flags.lean ====
section
/-! DEFINITION. The core has no flags and no condition codes (10_state.md R45, 41_alu_datapath.md R200): a comparison
delivers its outcome as the value 1 or 0. Here stand that value and the reading of the operands of an ordering
comparison (44_alu_compare.md R265). -/

namespace Sys2Proof.Machine

/-- `zext_W` of a Boolean: `true` is 1, `false` is 0 (R24, D3). -/
def boolWord (w : Nat) (b : Bool) : Word w := if b then 1#w else 0#w

/-- `cmp(v)`, the number an ordering comparison reads from a register value (R265). -/
def cmpValue {w : Nat} (signed : Bool) (v : Word w) : Int := if signed then v.toInt else (v.toNat : Int)

end Sys2Proof.Machine
end

