-- ==== Sys2Proof/Machine/Compare.lean ====
section
/-! DEFINITION. The comparison instructions (44_alu_compare.md R260 to R265): left relation right, the result 1 or 0. The
ordering ones read both operands by `CMP_SIGNED` (R265). -/

namespace Sys2Proof.Machine

/-- EQ: all `W` bits equal (R260). -/
def execEq (l r : Sel) (d : Dest) (imm : Nat) (s : State) : Host.Outcome State Fault Refusal :=
  .next (s.runLanes (fun a b => boolWord s.cfg.regWidth (a == b)) l r d imm)

/-- GT (R261). -/
def execGt (l r : Sel) (d : Dest) (imm : Nat) (s : State) : Host.Outcome State Fault Refusal :=
  .next (s.runLanes (fun a b => boolWord s.cfg.regWidth (decide (cmpValue s.cfg.cmpSigned a > cmpValue s.cfg.cmpSigned b))) l r d imm)

/-- GTE (R262). -/
def execGte (l r : Sel) (d : Dest) (imm : Nat) (s : State) : Host.Outcome State Fault Refusal :=
  .next (s.runLanes (fun a b => boolWord s.cfg.regWidth (decide (cmpValue s.cfg.cmpSigned a ≥ cmpValue s.cfg.cmpSigned b))) l r d imm)

/-- LT (R263). -/
def execLt (l r : Sel) (d : Dest) (imm : Nat) (s : State) : Host.Outcome State Fault Refusal :=
  .next (s.runLanes (fun a b => boolWord s.cfg.regWidth (decide (cmpValue s.cfg.cmpSigned a < cmpValue s.cfg.cmpSigned b))) l r d imm)

/-- LTE (R264). -/
def execLte (l r : Sel) (d : Dest) (imm : Nat) (s : State) : Host.Outcome State Fault Refusal :=
  .next (s.runLanes (fun a b => boolWord s.cfg.regWidth (decide (cmpValue s.cfg.cmpSigned a ≤ cmpValue s.cfg.cmpSigned b))) l r d imm)

end Sys2Proof.Machine
end

