-- ==== Sys2Proof/Machine/Logic.lean ====
section
/-! DEFINITION. The logic instructions (42_alu_logic.md R220 to R223). Each computes its result in every lane and commits
it (R197); none sets a flag or raises an exception (R200). -/

namespace Sys2Proof.Machine

/-- NOT: the complement of the left operand; the right one is not read (R220). -/
def execNot (l r : Sel) (d : Dest) (imm : Nat) (s : State) : Host.Outcome State Fault Refusal :=
  .next (s.runLanes (fun a _ => ~~~a) l r d imm)

/-- AND (R221). -/
def execAnd (l r : Sel) (d : Dest) (imm : Nat) (s : State) : Host.Outcome State Fault Refusal :=
  .next (s.runLanes (fun a b => a &&& b) l r d imm)

/-- OR (R222). -/
def execOr (l r : Sel) (d : Dest) (imm : Nat) (s : State) : Host.Outcome State Fault Refusal :=
  .next (s.runLanes (fun a b => a ||| b) l r d imm)

/-- XOR (R223). -/
def execXor (l r : Sel) (d : Dest) (imm : Nat) (s : State) : Host.Outcome State Fault Refusal :=
  .next (s.runLanes (fun a b => a ^^^ b) l r d imm)

end Sys2Proof.Machine
end

