-- ==== Sys2Proof/Machine/Dispatch.lean ====
section
/-! DEFINITION. One arm per instruction: its meaning in all lanes (41_alu_datapath.md R196, R197, R294). -/

namespace Sys2Proof.Machine

def exec (i : Instr) (s : State) : Host.Outcome State Fault Refusal :=
  match i with
  | .not l r d imm => Sys2Proof.Machine.execNot l r d imm s
  | .and l r d imm => Sys2Proof.Machine.execAnd l r d imm s
  | .or l r d imm => Sys2Proof.Machine.execOr l r d imm s
  | .xor l r d imm => Sys2Proof.Machine.execXor l r d imm s
  | .add l r d imm => Sys2Proof.Machine.execAdd l r d imm s
  | .sub l r d imm => Sys2Proof.Machine.execSub l r d imm s
  | .eq l r d imm => Sys2Proof.Machine.execEq l r d imm s
  | .gt l r d imm => Sys2Proof.Machine.execGt l r d imm s
  | .gte l r d imm => Sys2Proof.Machine.execGte l r d imm s
  | .lt l r d imm => Sys2Proof.Machine.execLt l r d imm s
  | .lte l r d imm => Sys2Proof.Machine.execLte l r d imm s

end Sys2Proof.Machine
end

