-- ==== Sys2Proof/Machine/Sequencer.lean ====
section
/-! DEFINITION. The Pixel Processor's sequencer: its signals, the reference consumer, and the next values of `pc`, the
coordinates and the frame counter (45_pixel_processor.md R292 to R312, R320). -/

namespace Sys2Proof.Machine

/-- `result_ready`: `pc` addresses the last instruction (R295). -/
def State.resultReady (s : State) : Bool := s.pc + 1 == s.cfg.p

/-- The reference consumer's request (R320). -/
def State.referenceAdv (s : State) : Bool := s.active && s.resultReady && s.xPos % s.cfg.n == 0

/-- `adv`, the consumer's request in this tick (R291, R320). -/
def State.adv (s : State) : Bool :=
  match s.input.adv with
  | .reference => s.referenceAdv
  | .request b => b

/-- `eff_adv`: a request acts only in the active window (R305). -/
def State.effAdv (s : State) : Bool := s.adv && s.active

/-- `end_of_line`: lane `N-1` computes the last pixel of its line (R306). -/
def State.endOfLine (s : State) : Bool :=
  match s.lanes[s.cfg.n - 1]? with
  | some ln => ln.xCoord + 1 == s.cfg.width
  | none => false

/-- The program counter's next value (R307). -/
def State.nextPc (s : State) : Nat :=
  if s.newFrame then 0
  else if s.active then
    if s.effAdv then 0
    else if !s.resultReady then s.pc + 1
    else s.pc
  else s.pc

/-- Lane `l`'s next coordinate, from its present one (R308). -/
def State.nextX (s : State) (l x : Nat) : Nat :=
  if s.newFrame || (s.newLine && s.effAdv) then l
  else if s.effAdv then (x + s.cfg.n) % s.cfg.width
  else x

/-- The shared vertical coordinate's next value (R309). -/
def State.nextY (s : State) : Nat :=
  if s.newFrame then 0
  else if s.effAdv && s.endOfLine then (s.yCoord + 1) % s.cfg.height
  else s.yCoord

/-- The frame counter's next value, modulo `2^FW` (R310). -/
def State.nextFrame (s : State) : Nat :=
  if s.newFrame then (s.frameCounter + 1) % 2 ^ s.cfg.frameWidth else s.frameCounter

/-- Whether this edge clears the GP registers (R312). -/
def State.clearsGp (s : State) : Bool := s.cfg.gpFrameReset && s.newFrame

/-- What the edge ending the tick of snapshot `s` does to lane `l` beside its commit: the coordinate steps (R308), and
a frame-boundary clear overrides the commit to a GP register (R311, R312). -/
def State.stepLane (s : State) (l : Nat) (ln : Lane) : Lane :=
  { ln with
    xCoord := s.nextX l ln.xCoord
    gp := if s.clearsGp then ln.gp.map (fun _ => 0) else ln.gp }

end Sys2Proof.Machine
end

