-- ==== Sys2Proof/Machine/Sources.lean ====
section
/-! DEFINITION. The two pixel source generators: Test Pattern (46_pixel_sources.md R340 to R346) and Still image (R347 to
R352), with the places of the colour channels (00_scope.md R16). A generator that is not instantiated has no output and
keeps its registers at their values (log 12). -/

namespace Sys2Proof

/-- The slice that red stands in (R16). -/
def RgbOrder.redSlot : RgbOrder → Nat
  | .rgb => 0
  | .rbg => 0
  | .grb => 1
  | .gbr => 2
  | .brg => 1
  | .bgr => 2

/-- The slice that green stands in (R16). -/
def RgbOrder.greenSlot : RgbOrder → Nat
  | .rgb => 1
  | .rbg => 2
  | .grb => 0
  | .gbr => 0
  | .brg => 2
  | .bgr => 1

/-- The slice that blue stands in (R16). -/
def RgbOrder.blueSlot : RgbOrder → Nat
  | .rgb => 2
  | .rbg => 1
  | .grb => 2
  | .gbr => 1
  | .brg => 0
  | .bgr => 0

/-- The channel in slice `slot` of a packed value, for colour depth `C = c` (R198). -/
def channelAt (c slot : Nat) (v : Rgb) : Nat := bitField v (c * slot) c

/-- The red channel of a packed value (R16, R198). -/
def RgbOrder.red (o : RgbOrder) (c : Nat) (v : Rgb) : Nat := channelAt c o.redSlot v
/-- The green channel of a packed value (R16, R198). -/
def RgbOrder.green (o : RgbOrder) (c : Nat) (v : Rgb) : Nat := channelAt c o.greenSlot v
/-- The blue channel of a packed value (R16, R198). -/
def RgbOrder.blue (o : RgbOrder) (c : Nat) (v : Rgb) : Nat := channelAt c o.blueSlot v

/-- `place(r, g, b)`: each channel at its slice, for colour depth `C = c` (R344). -/
def RgbOrder.place (o : RgbOrder) (c r g b : Nat) : Rgb :=
  2 ^ (c * o.redSlot) * r + 2 ^ (c * o.greenSlot) * g + 2 ^ (c * o.blueSlot) * b

namespace Machine

/-- `gate`: the pattern of the present cell row (R344). -/
def State.gate (s : State) : BitVec 3 := s.cfg.tpPattern.get s.cellRowCount.toFin

/-- `chan(c)`: the column number where the gate's bit `c` is 1, else 0 (R344). -/
def State.gatedChannel (s : State) (c : Nat) : Nat := if s.gate.getLsbD c then s.cellColCount else 0

/-- `tp_rgb` (R344). -/
def State.tpRgb (s : State) : Rgb :=
  if s.active then s.cfg.rgbOrder.place s.cfg.colorDepth (s.gatedChannel 0) (s.gatedChannel 1) (s.gatedChannel 2) else 0

/-- `pix_count`'s next value (R342). -/
def State.nextPixCount (s : State) : Nat :=
  if !s.active then 0
  else if s.pixCount == s.cfg.cellWidth - 1 then 0
  else s.pixCount + 1

/-- `cell_col_count`'s next value, modulo `2^C` (R342). -/
def State.nextCellCol (s : State) : Nat :=
  if !s.active then 0
  else if s.pixCount == s.cfg.cellWidth - 1 then (s.cellColCount + 1) % 2 ^ s.cfg.colorDepth
  else s.cellColCount

/-- The last visible pixel of a line (R343). -/
def State.lastPixel (s : State) : Bool := s.active && s.xPos == s.cfg.width - 1

/-- `line_count`'s next value (R343; 90_conflicts.md C5). -/
def State.nextLineCount (s : State) : Nat :=
  if !s.vActive then 0
  else if s.lastPixel then
    if s.lineCount == s.cfg.cellHeight - 1 then 0 else s.lineCount + 1
  else s.lineCount

/-- `cell_row_count`'s next value, modulo 8 (R343). -/
def State.nextCellRow (s : State) : BitVec 3 :=
  if !s.vActive then 0
  else if s.lastPixel then
    if s.lineCount == s.cfg.cellHeight - 1 then s.cellRowCount + 1 else s.cellRowCount
  else s.cellRowCount

/-- `ex`: the column read in this tick, the line pulse acting at once (R348). -/
def State.ex (s : State) : Nat := if s.newLine then 0 else s.sx

/-- `ey`: the row read in this tick, the pulses acting at once and the frame's first (R348; 90_conflicts.md C9). -/
def State.ey (s : State) : Nat :=
  if s.newFrame then 0
  else if s.newLine then (s.sy + 1) % s.cfg.height
  else s.sy

/-- `st_rgb` (R349). -/
def State.stRgb (s : State) : Rgb :=
  let k := s.ey * s.cfg.width + s.ex
  if !s.active then 0
  else if k < s.cfg.width * s.cfg.height then s.cfg.img.read k
  else 0

/-- `sx`'s next value (R350). -/
def State.nextSx (s : State) : Nat := if s.active then s.ex + 1 else s.sx

/-- `sy`'s next value (R350). -/
def State.nextSy (s : State) : Nat := if s.active then s.ey else s.sy

end Machine

end Sys2Proof
end

