-- ==== Sys2Proof/Machine/Edge.lean ====
section
/-! DEFINITION. The clock edge without reset (20_memory.md R80, R81): every register beside the lanes' commits takes its
next value, computed from the snapshot of the tick; and the outputs of a tick (60_exceptions.md R396). -/

namespace Sys2Proof.Machine

/-- The edge that ends the tick of snapshot `s`, where `c` is `s` with the lanes' commits made (R80, R197), or `s` itself
where there is no Pixel Processor. Every next value is computed from the snapshot (R89); the scheduled inputs of this edge
are used up. A block that is not instantiated keeps its registers (R353; log 12, 13). -/
def State.clockEdge (s c : State) : State :=
  { c with
    scanCounter  := s.nextScan
    lineCounter  := s.nextLine
    pc           := if s.cfg.pixelProcessor then s.nextPc else s.pc
    yCoord       := if s.cfg.pixelProcessor then s.nextY else s.yCoord
    frameCounter := if s.cfg.pixelProcessor then s.nextFrame else s.frameCounter
    lanes        := if s.cfg.pixelProcessor then c.lanes.mapIdx s.stepLane else c.lanes
    pixCount     := if s.cfg.testPattern then s.nextPixCount else s.pixCount
    lineCount    := if s.cfg.testPattern then s.nextLineCount else s.lineCount
    cellColCount := if s.cfg.testPattern then s.nextCellCol else s.cellColCount
    cellRowCount := if s.cfg.testPattern then s.nextCellRow else s.cellRowCount
    sx           := if s.cfg.still then s.nextSx else s.sx
    sy           := if s.cfg.still then s.nextSy else s.sy
    inputs       := s.inputs.tail }

/-- What the core's environment observes in one tick (R396). A block that is not instantiated has no output
(R353; log 12, 13). -/
structure Outputs where
  hsync       : Bool
  vsync       : Bool
  hsyncPin    : Bool
  vsyncPin    : Bool
  active      : Bool
  xPos        : Nat
  yPos        : Nat
  newLine     : Bool
  newFrame    : Bool
  out         : Option (List Rgb)
  resultReady : Option Bool
  tpRgb       : Option Rgb
  stRgb       : Option Rgb
deriving DecidableEq, Repr

/-- The outputs of a tick, a function of the snapshot (R81, R396). -/
def State.outputs (s : State) : Outputs where
  hsync       := s.hsync
  vsync       := s.vsync
  hsyncPin    := s.hsyncPin
  vsyncPin    := s.vsyncPin
  active      := s.active
  xPos        := s.xPos
  yPos        := s.yPos
  newLine     := s.newLine
  newFrame    := s.newFrame
  out         := if s.cfg.pixelProcessor then some (s.lanes.map Lane.out) else none
  resultReady := if s.cfg.pixelProcessor then some s.resultReady else none
  tpRgb       := if s.cfg.testPattern then some s.tpRgb else none
  stRgb       := if s.cfg.still then some s.stRgb else none

end Sys2Proof.Machine
end

