-- ==== Sys2Proof/Machine/Step.lean ====
section
/-! DEFINITION. One step: one rising edge of the pixel clock (20_memory.md R80), and how an instruction is placed where
the next step runs it. -/

namespace Sys2Proof.Machine

/-- One tick. A configuration that fails a check never runs (R384); an asserted reset overrides everything (R410); else
the instruction at `pc` executes in every lane and the edge steps every other register (R80, R203, R292). Without a Pixel
Processor there is no instruction to execute (R353; log 13). -/
def step (s : State) : Host.Outcome State Fault Refusal :=
  match configErrors s.cfg with
  | e :: es => .refused (.config (reportedError s.cfg e es))
  | [] =>
    if s.rst then .next s.resetEdge
    else if !s.cfg.pixelProcessor then .next (s.clockEdge s)
    else
      match s.fetch with
      | none => .fault .fetchOutsideProgram
      | some i =>
        match exec i s with
        | .next c => .next (s.clockEdge c)
        | .fault f => .fault f
        | .refused r => .refused r

/-- `s` with the one-word program `w` loaded by the host (R93, R415; log 5), `pc` at it, and no reset asserted at the
coming edge, so that the next step runs that instruction. -/
def State.withFetchWord (s : State) (nbits w : Nat) : State :=
  { s with
    cfg := s.cfg.loadProgram [w % 2 ^ nbits]
    pc := 0
    inputs := s.inputs.modifyHead fun t => { t with rst := false } }

end Sys2Proof.Machine
end

