-- ==== Sys2Proof/Machine/Asm.lean ====
section
/-! DEFINITION. The spec's assembler notation (30_encoding.md R140 to R146): instruction lines with the pseudo-instructions
MOV, NEG, NOP and CLR, their assembly to instructions, their text, and disassembly. Texts are lists of characters. -/

namespace Sys2Proof

/-- The eleven mnemonics (R114, R140). -/
inductive Mnemonic where
  | not | and | or | xor | add | sub | eq | gt | gte | lt | lte
deriving DecidableEq, Repr

/-- The instruction of a mnemonic with the given fields (R114). -/
def Mnemonic.build : Mnemonic → Sel → Sel → Dest → Nat → Instr
  | .not => .not
  | .and => .and
  | .or => .or
  | .xor => .xor
  | .add => .add
  | .sub => .sub
  | .eq => .eq
  | .gt => .gt
  | .gte => .gte
  | .lt => .lt
  | .lte => .lte

/-- The mnemonic of an instruction (R114). -/
def Instr.mnemonic : Instr → Mnemonic
  | .not _ _ _ _ => .not
  | .and _ _ _ _ => .and
  | .or _ _ _ _ => .or
  | .xor _ _ _ _ => .xor
  | .add _ _ _ _ => .add
  | .sub _ _ _ _ => .sub
  | .eq _ _ _ _ => .eq
  | .gt _ _ _ _ => .gt
  | .gte _ _ _ _ => .gte
  | .lt _ _ _ _ => .lt
  | .lte _ _ _ _ => .lte

/-- The spelling of a mnemonic (R114). -/
def Mnemonic.text : Mnemonic → List Char
  | .not => ['N', 'O', 'T']
  | .and => ['A', 'N', 'D']
  | .or => ['O', 'R']
  | .xor => ['X', 'O', 'R']
  | .add => ['A', 'D', 'D']
  | .sub => ['S', 'U', 'B']
  | .eq => ['E', 'Q']
  | .gt => ['G', 'T']
  | .gte => ['G', 'T', 'E']
  | .lt => ['L', 'T']
  | .lte => ['L', 'T', 'E']

/-- The mnemonics, in the order of R114. -/
def mnemonics : List Mnemonic := [.not, .and, .or, .xor, .add, .sub, .eq, .gt, .gte, .lt, .lte]

/-- An operand as it is written (R141): a selector name other than `IMM`, or an integer literal. -/
inductive AsmOperand where
  | gp (n : Fin 7)
  | xpos
  | ypos
  | frame
  | literal (v : Int)
deriving DecidableEq, Repr

/-- One instruction line (R140) or pseudo-instruction (R142 to R145). -/
inductive AsmLine where
  /-- `MNEMONIC(left, right) -> dest`, for every mnemonic but NOT (R140). -/
  | binary (m : Mnemonic) (left right : AsmOperand) (dest : Dest)
  /-- `NOT(left) -> dest` (R140). -/
  | not (left : AsmOperand) (dest : Dest)
  /-- `MOV(src) -> dest` (R142). -/
  | mov (src : AsmOperand) (dest : Dest)
  /-- `NEG(src) -> dest` (R143). -/
  | neg (src : AsmOperand) (dest : Dest)
  /-- `NOP` (R144). -/
  | nop
  /-- `CLR -> dest` (R145). -/
  | clr (dest : Dest)
deriving DecidableEq, Repr

/-- Why a line does not assemble. -/
inductive AsmError where
  /-- The line is not of a form of R140 to R145. -/
  | badLine
  /-- A literal outside `[-2^(W-1), 2^W - 1]` (R141). -/
  | literalRange
  /-- Two literals that need different immediates (R141). -/
  | twoLiterals
  /-- A register that does not exist (R140, R141). -/
  | noSuchRegister
deriving DecidableEq, Repr

/-- The selector and the immediate, where there is one, of an operand (R141): a literal is `literal mod 2^W`. -/
def AsmOperand.assemble (w : Nat) : AsmOperand → Except AsmError (Sel × Option Nat)
  | .gp n => .ok (.gp n, none)
  | .xpos => .ok (.xpos, none)
  | .ypos => .ok (.ypos, none)
  | .frame => .ok (.frame, none)
  | .literal v =>
    if -(2 ^ (w - 1)) ≤ v ∧ v ≤ 2 ^ w - 1 then .ok (.imm, some (v % 2 ^ w).toNat) else .error .literalRange

/-- The one immediate field of two operands (R141): 0 without a literal; two literals must give the same immediate, as
those of `EQ(0xFFFFFFFF, -1)` do (R260). -/
def sharedImmediate : Option Nat → Option Nat → Except AsmError Nat
  | none, none => .ok 0
  | some a, none => .ok a
  | none, some b => .ok b
  | some a, some b => if a = b then .ok a else .error .twoLiterals

/-- An instruction is assembled only with registers that exist (R140, R141). -/
def checkRegisters (g : Nat) (i : Instr) : Except AsmError Instr :=
  if i.left.wf g && i.right.wf g && i.dest.wf g then .ok i else .error .noSuchRegister

/-- `MNEMONIC(left, right) -> dest` (R140, R141). -/
def assembleBinary (f : Format) (m : Mnemonic) (l r : AsmOperand) (d : Dest) : Except AsmError Instr :=
  match l.assemble f.w, r.assemble f.w with
  | .ok (sl, il), .ok (sr, ir) =>
    match sharedImmediate il ir with
    | .ok imm => checkRegisters f.g (m.build sl sr d imm)
    | .error e => .error e
  | .error e, _ => .error e
  | _, .error e => .error e

/-- `NOT(left) -> dest`, with `right_op = 0` (R141). -/
def assembleNot (f : Format) (l : AsmOperand) (d : Dest) : Except AsmError Instr :=
  match l.assemble f.w with
  | .ok (sl, il) => checkRegisters f.g (.not sl (.gp 0) d (il.getD 0))
  | .error e => .error e

/-- The instruction a line assembles to (R140 to R145). -/
def AsmLine.assemble (f : Format) : AsmLine → Except AsmError Instr
  | .binary m l r d => assembleBinary f m l r d
  | .not l d => assembleNot f l d
  | .mov src d => assembleBinary f .or src src d
  | .neg src d => assembleBinary f .sub (.literal 0) src d
  | .nop => assembleBinary f .or (.gp 0) (.gp 0) (.gp 0)
  | .clr d => assembleBinary f .xor (.gp 0) (.gp 0) d

/-- The text before and after the first `->` or `→` (R140: the same token). -/
def splitArrow : List Char → Option (List Char × List Char)
  | [] => none
  | '-' :: '>' :: rest => some ([], rest)
  | '→' :: rest => some ([], rest)
  | c :: rest =>
    match splitArrow rest with
    | none => none
    | some (before, after) => some (c :: before, after)

/-- The text before and after the first `c`. -/
def splitChar (c : Char) : List Char → Option (List Char × List Char)
  | [] => none
  | x :: rest =>
    if x = c then some ([], rest)
    else
      match splitChar c rest with
      | none => none
      | some (before, after) => some (x :: before, after)

/-- The value of a digit in base 16, which is its value in base 10 where it is one. -/
def digitValue (c : Char) : Option Nat :=
  if '0' ≤ c ∧ c ≤ '9' then some (c.toNat - '0'.toNat)
  else if 'a' ≤ c ∧ c ≤ 'f' then some (c.toNat - 'a'.toNat + 10)
  else if 'A' ≤ c ∧ c ≤ 'F' then some (c.toNat - 'A'.toNat + 10)
  else none

/-- The number whose digits in `base` follow those of `acc`. -/
def numberFrom (base : Nat) : Nat → List Char → Option Nat
  | acc, [] => some acc
  | acc, c :: rest =>
    match digitValue c with
    | none => none
    | some v => if v < base then numberFrom base (base * acc + v) rest else none

/-- A natural number, decimal or hexadecimal with `0x` (R141). -/
def parseNumber : List Char → Option Nat
  | [] => none
  | ['0', 'x'] => none
  | '0' :: 'x' :: digits => numberFrom 16 0 digits
  | digits => numberFrom 10 0 digits

/-- The register number after `GP`. -/
def parseRegister (cs : List Char) : Option (Fin 7) :=
  match cs with
  | [c] =>
    match digitValue c with
    | none => none
    | some v => if h : v < 7 then some ⟨v, h⟩ else none
  | _ => none

/-- An operand (R141). -/
def parseOperand : List Char → Option AsmOperand
  | ['X', 'P', 'O', 'S'] => some .xpos
  | ['Y', 'P', 'O', 'S'] => some .ypos
  | ['F', 'R', 'A', 'M', 'E'] => some .frame
  | 'G' :: 'P' :: rest => (parseRegister rest).map .gp
  | '-' :: rest => (parseNumber rest).map fun n => .literal (-(n : Int))
  | cs => (parseNumber cs).map fun n => .literal (n : Int)

/-- A destination (R140). -/
def parseDest : List Char → Option Dest
  | ['O', 'U', 'T', 'P', 'U', 'T'] => some .output
  | 'G' :: 'P' :: rest => (parseRegister rest).map .gp
  | _ => none

/-- The text between the first `(` and a closing `)` at the end, and the name before it. -/
def splitCall (cs : List Char) : Option (List Char × List Char) :=
  match splitChar '(' cs with
  | none => none
  | some (name, rest) =>
    match rest.getLast? with
    | some ')' => some (name, rest.dropLast)
    | _ => none

/-- A line with one operand: NOT, MOV or NEG (R140, R142, R143). -/
def parseUnary (name : List Char) (a : AsmOperand) (d : Dest) : Option AsmLine :=
  match name with
  | ['N', 'O', 'T'] => some (.not a d)
  | ['M', 'O', 'V'] => some (.mov a d)
  | ['N', 'E', 'G'] => some (.neg a d)
  | _ => none

/-- A line with two operands: every mnemonic but NOT (R140). -/
def parseBinary (name : List Char) (a b : AsmOperand) (d : Dest) : Option AsmLine :=
  match mnemonics.find? fun m => m.text == name with
  | some .not => none
  | some m => some (.binary m a b d)
  | none => none

/-- The part of an instruction line before the arrow, with its destination. -/
def parseHead (head : List Char) (d : Dest) : Option AsmLine :=
  match head with
  | ['C', 'L', 'R'] => some (.clr d)
  | _ =>
    match splitCall head with
    | none => none
    | some (name, args) =>
      match splitChar ',' args with
      | none =>
        match parseOperand args with
        | some a => parseUnary name a d
        | none => none
      | some (left, right) =>
        match parseOperand left, parseOperand right with
        | some a, some b => parseBinary name a b d
        | _, _ => none

/-- A line without its comment, which runs from `;` to the end (R140), and without blanks (log 18). -/
def stripLine (cs : List Char) : List Char :=
  (cs.takeWhile (· != ';')).filter fun c => c != ' ' && c != '\t' && c != '\r'

/-- An instruction line's text, stripped, as a line (R140 to R145). -/
def parseLine (cs : List Char) : Except AsmError AsmLine :=
  match cs with
  | ['N', 'O', 'P'] => .ok .nop
  | _ =>
    match splitArrow cs with
    | none => .error .badLine
    | some (head, dest) =>
      match parseDest dest with
      | none => .error .badLine
      | some d =>
        match parseHead head d with
        | none => .error .badLine
        | some l => .ok l

/-- The lines of a text. -/
def splitLines : List Char → List (List Char)
  | [] => [[]]
  | c :: rest =>
    match splitLines rest with
    | [] => [[c]]
    | l :: ls => if c = '\n' then [] :: l :: ls else (c :: l) :: ls

/-- The instructions of stripped lines; empty lines hold none (R140). -/
def assembleLines (f : Format) : List (List Char) → Except AsmError (List Instr)
  | [] => .ok []
  | [] :: rest => assembleLines f rest
  | line :: rest =>
    match parseLine line with
    | .error e => .error e
    | .ok l =>
      match l.assemble f with
      | .error e => .error e
      | .ok i =>
        match assembleLines f rest with
        | .error e => .error e
        | .ok is => .ok (i :: is)

/-- The instructions of a program text: the `k`-th instruction line is word `k` of `PROG` (R140). -/
def assembleText (f : Format) (text : List Char) : Except AsmError (List Instr) :=
  assembleLines f ((splitLines text).map stripLine)

/-- The program table of a program text (R140). -/
def assembleProgram (f : Format) (text : List Char) : Except AsmError (List Nat) :=
  match assembleText f text with
  | .ok is => .ok (is.map (encodeWord f.g))
  | .error e => .error e

/-- A hexadecimal digit, in capitals. -/
def hexDigit (v : Nat) : Char := if v < 10 then Char.ofNat (48 + v) else Char.ofNat (55 + v)

/-- The hexadecimal digits of a number below `16^(k+1)`, without leading zeros. -/
def hexDigits : Nat → Nat → List Char
  | 0, v => [hexDigit (v % 16)]
  | k + 1, v => if v < 16 then [hexDigit v] else hexDigits k (v / 16) ++ [hexDigit (v % 16)]

/-- A selector as it is printed: its name, but the immediate's value in hexadecimal for `IMM` (R146). -/
def Sel.print (imm : Nat) : Sel → List Char
  | .gp n => ['G', 'P', hexDigit n.val]
  | .xpos => ['X', 'P', 'O', 'S']
  | .ypos => ['Y', 'P', 'O', 'S']
  | .frame => ['F', 'R', 'A', 'M', 'E']
  | .imm => '0' :: 'x' :: hexDigits imm.log2 imm

/-- A destination as it is printed (R140). -/
def Dest.print : Dest → List Char
  | .gp n => ['G', 'P', hexDigit n.val]
  | .output => ['O', 'U', 'T', 'P', 'U', 'T']

/-- The operands as they are printed: NOT prints only its left one (R146). -/
def Instr.printOperands (i : Instr) : List Char :=
  match i.mnemonic with
  | .not => i.left.print i.immediate
  | _ => i.left.print i.immediate ++ [',', ' '] ++ i.right.print i.immediate

/-- Disassembly (R146). -/
def Instr.disassemble (i : Instr) : List Char :=
  i.mnemonic.text ++ ['('] ++ i.printOperands ++ [')', ' ', '-', '>', ' '] ++ i.dest.print

end Sys2Proof
end

