-- ==== Sys2Proof/Safety.lean ====
section
/-! DEFINITION. What counts as a safe run: a configuration that passed its checks, and every register within the range
10_state.md gives it. Runs, and the relations that the claims use. -/

namespace Sys2Proof.Machine

/-- A configuration that may run (R384): no check fails, and the image table is in its canonical form. -/
abbrev ValidConfig (c : Config) : Prop := configErrors c = [] ∧ c.img.wf = true

/-- A lane's registers are in range (R35 to R37, R43): `x_coord` below `width`, `G` registers of `W` bits, and an output
latch of `3*C` bits. -/
abbrev Lane.InRange (c : Config) (ln : Lane) : Prop :=
  ln.xCoord < c.width ∧ ln.gp.length = c.g ∧ (∀ v ∈ ln.gp, v < 2 ^ c.regWidth) ∧ ln.out < 2 ^ (3 * c.colorDepth)

/-- The Still generator is in step with the raster: past the first pixel of a visible line, `sx` counts the pixels of
the line already shown (R350, R351). It is what keeps `sx` in `[0, width]` (R42). -/
abbrev State.StillInStep (s : State) : Prop :=
  s.cfg.still = true → s.vActive = true → s.cfg.res.h.prescan < s.scanCounter →
    s.sx = min (s.scanCounter - s.cfg.res.h.prescan) s.cfg.width

/-- Every register is in the range that 10_state.md R30 to R42 gives it. `pc` is in `[0, P)`, or 0 where no program is
loaded. -/
structure State.InRange (s : State) : Prop where
  /-- R30. -/
  scan      : s.scanCounter < s.cfg.res.h.fullscan
  /-- R31. -/
  line      : s.lineCounter < s.cfg.res.v.fullscan
  /-- R32. -/
  pc        : s.pc < max s.cfg.p 1
  /-- R33. -/
  y         : s.yCoord < s.cfg.height
  /-- R34. -/
  frame     : s.frameCounter < 2 ^ s.cfg.frameWidth
  /-- R290: one lane for each of `0..N-1`. -/
  laneCount : s.lanes.length = s.cfg.n
  /-- R35, R36, R37, R43. -/
  lane      : ∀ ln ∈ s.lanes, ln.InRange s.cfg
  /-- R38. -/
  pix       : s.cfg.testPattern = true → s.pixCount < s.cfg.cellWidth
  /-- R39. -/
  lineCount : s.cfg.testPattern = true → s.lineCount < s.cfg.cellHeight
  /-- R40. -/
  cellCol   : s.cellColCount < 2 ^ s.cfg.colorDepth
  /-- R42. -/
  sx        : s.sx ≤ s.cfg.width
  /-- R42. -/
  sy        : s.sy < s.cfg.height
  /-- R350, R351. -/
  inStep    : s.StillInStep
  /-- The image table's canonical form. -/
  image     : s.cfg.img.wf = true

/-- `k` steps from `s` end in `t`, none of them stopping. -/
def Reaches (s : State) (k : Nat) (t : State) : Prop :=
  match k with
  | 0 => t = s
  | k + 1 => ∃ u, Reaches s k u ∧ step u = .next t

/-- `t` is a state of a run of the configuration `c` from reset (R413), with the given inputs at its edges. -/
def Run (c : Config) (inputs : List TickInput) (k : Nat) (t : State) : Prop :=
  Reaches (State.resetWith c inputs) k t

/-- No reset is scheduled at any coming edge. -/
abbrev NoReset (inputs : List TickInput) : Prop := ∀ t ∈ inputs, t.rst = false

/-- The reference consumer drives every coming edge (R320), and no reset is scheduled. -/
abbrev ReferenceOnly (inputs : List TickInput) : Prop := ∀ t ∈ inputs, t = ⟨false, .reference⟩

/-- What one lane holds after the commit of `result` to `d`, for colour depth `C = c` (R197, R198): the output latch takes
the low `3*C` bits of the result and no GP register changes, or one GP register takes the result and neither `out` nor
another register changes. `x_coord` is no instruction's to change (R44). -/
def Lane.CommittedTo (ln ln' : Lane) (c : Nat) (d : Dest) {w : Nat} (result : Word w) : Prop :=
  ln'.xCoord = ln.xCoord ∧
  match d with
  | .output => (∀ i, ln'.out.testBit i = (decide (i < 3 * c) && result.getLsbD i)) ∧ ln'.gp = ln.gp
  | .gp n =>
    ln'.out = ln.out ∧ ln'.gp.length = ln.gp.length ∧ (n.val < ln.gp.length → ln'.readGp n = result.toNat) ∧
      ∀ m : Fin 7, m ≠ n → ln'.readGp m = ln.readGp m

/-- `t` is `s` after one instruction committed, in every lane, what `result` gives for that lane (R197, R294), with
nothing else changed: not the configuration and its tables, the counters, `pc`, the coordinates, `frame_counter`, the
generators' registers or the number of lanes (R44, R46, R84). -/
def CommitsInEveryLane (s t : State) (d : Dest) (result : Lane → Word s.cfg.regWidth) : Prop :=
  t = { s with lanes := t.lanes } ∧ t.lanes.length = s.lanes.length ∧
    ∀ (k : Nat) (ln : Lane), s.lanes[k]? = some ln → ∃ ln', t.lanes[k]? = some ln' ∧ ln.CommittedTo ln' s.cfg.colorDepth d (result ln)

/-- Every word that decodes to `i`, in whatever format, holds `op` in its opcode field (R111, R114). -/
def HasOpcode (i : Instr) (op : Nat) : Prop :=
  ∀ (f : Format) (w : Nat), decodeWord f w = .ok i → bitField w (opcodeLo f.g) opcodeWidth = op

/-- No word decodes to `i` where the comparison set is absent (R114, R118, R266). -/
def NeedsExtCmp (i : Instr) : Prop := ∀ (f : Format) (w : Nat), f.extCmp = false → decodeWord f w ≠ .ok i

/-- No field of a word holds a reserved value (R118). -/
def Unreserved (f : Format) (w : Nat) : Prop :=
  bitField w 0 (selWidth f.g) < f.g + 4 ∧ bitField w (rightLo f.g) (selWidth f.g) < f.g + 4 ∧
    bitField w (destLo f.g) (destWidth f.g) ≤ f.g ∧
    bitField w (opcodeLo f.g) opcodeWidth ≤ if f.extCmp then 10 else 5

/-- The step at `s` is a tick of the running core, not a reset edge: the configuration passes its checks (R384), `rst` is
not asserted (R410) and, where there is a Pixel Processor, `pc` is in `[0, P)` (R32). -/
abbrev State.Ticks (s : State) : Prop :=
  configErrors s.cfg = [] ∧ s.rst = false ∧ (s.cfg.pixelProcessor = true → s.pc < s.cfg.p)

/-- A tick of a core with a Pixel Processor. -/
abbrev State.PpTicks (s : State) : Prop := s.Ticks ∧ s.cfg.pixelProcessor = true

end Sys2Proof.Machine
end

