-- ==== Sys2Proof/Certificates/Slice0/Obligations.lean ====
section
/-! DEFINITION. The statements about the model, one per numbered rule or group of rules of spec/. They are about every
configuration, every state and every input unless they say otherwise. One clause, of `ResetIsInRange`, is about
`State.reset` and rests on the values the model chose for it; it says so. -/

open Sys2Proof Sys2Proof.Machine

/-! ### Encoding -/

/-- R111 to R117: decoding the word of an instruction that exists gives the instruction back, for every register count,
every `W` and either instruction set. No bit of an operand is dropped.
The layout and the numbers are the spec's own decisions D5, D6, D7 and D35 (rules R111 to R114). -/
def Obligations.DecodeInvertsEncode : Prop :=
  ∀ (f : Format) (i : Instr), 4 ≤ f.g → f.g ≤ 7 → i.wf f = true → decodeWord f (encodeWord f.g i) = .ok i

/-- R111, R118, R119: a word that decodes is the word of the instruction it decodes to, which exists. So each
instruction has one word, unused fields included.
That unused fields are validated is the spec's own decision D36; the numbers are D5 to D7. -/
def Obligations.EncodeInvertsDecode : Prop :=
  ∀ (f : Format) (w : Nat) (i : Instr), 4 ≤ f.g → f.g ≤ 7 → decodeWord f w = .ok i →
    encodeWord f.g i = w ∧ i.wf f = true

/-- R124: a word is stored as `ceil(ILEN/8)` bytes (6 canonically), byte `k` holding bits `[8k+7 : 8k]`, the padding bits
being zero; and decoding the bytes of an instruction gives it back with the bytes that follow.
The byte layout is the spec's own decision D30; padding bits above `ILEN` are refused by the model (log 14). -/
def Obligations.BytesRoundTrip : Prop :=
  storedBytes .canonical = 6 ∧
  ∀ (f : Format) (i : Instr) (rest : List Byte), 4 ≤ f.g → f.g ≤ 7 → i.wf f = true →
    8 * ((encodeBytes f i).length - 1) < ilen f ∧ ilen f ≤ 8 * (encodeBytes f i).length ∧
    (∀ (k : Nat) (b : Byte), (encodeBytes f i)[k]? = some b →
      ∀ j, j < 8 → b.getLsbD j = (encodeWord f.g i).testBit (8 * k + j)) ∧
    (∀ j, ilen f ≤ j → (encodeWord f.g i).testBit j = false) ∧
    decodeBytes f (encodeBytes f i ++ rest) = .ok (i, rest)

/-- Words written out bit by bit from R111 to R114 decode to the instructions they stand for: the two of R123, and one
more for each family.
The layout and the numbers are the spec's own decisions (D5, D6, D7, D35). -/
def Obligations.WrittenWordsDecode : Prop :=
  decodeWord .canonical 0b00000000000000000000000000000000_0000_100_000_100 = .ok (.not .xpos (.gp 0) .output 0) ∧
  decodeWord .canonical 0b00000000000000000000000000000000_0101_100_101_100 = .ok (.sub .xpos .ypos .output 0) ∧
  decodeWord .canonical 0b00000000000000000000111111111111_0001_100_111_000 = .ok (.and (.gp 0) .imm .output 0xFFF) ∧
  decodeWord .canonical 0b00000000000000000000000000000000_0100_000_110_100 = .ok (.add .xpos .frame (.gp 0) 0) ∧
  decodeWord .canonical 0b00000000000000000000000000000100_1001_001_111_100 = .ok (.lt .xpos .imm (.gp 1) 4) ∧
  decodeWord .canonical 0b11111111111111111111111111111111_1010_100_111_111 = .ok (.lte .imm .imm .output 0xFFFFFFFF)

/-- R116, R115, R21: the field widths and the instruction length for each register count, at `W = 32` and at any `W`.
R116 is an inference the spec marks as its own, from R111 to R114. -/
def Obligations.FieldWidths : Prop :=
  (selWidth 4 = 3 ∧ destWidth 4 = 3 ∧ ∀ e, ilen ⟨4, 32, e⟩ = 45) ∧
  (∀ g, 5 ≤ g → g ≤ 7 → selWidth g = 4 ∧ destWidth g = 3 ∧ ∀ e, ilen ⟨g, 32, e⟩ = 47) ∧
  (∀ g, 4 ≤ g → g ≤ 7 →
    g + 4 ≤ 2 ^ selWidth g ∧ 2 ^ (selWidth g - 1) < g + 4 ∧ g + 1 ≤ 2 ^ destWidth g ∧ 2 ^ (destWidth g - 1) < g + 1) ∧
  opcodeWidth = 4 ∧ ∀ f : Format, immWidth f = f.w ∧ ilen f = 2 * selWidth f.g + destWidth f.g + 4 + f.w

/-- R112, R113 (the spec's decisions D5, D6): the number of each operand selector, `G+4` and up being reserved, and of
each destination, `G+1` and up being reserved. -/
def Obligations.SelectorAndDestinationNumbering : Prop :=
  ∀ g, 4 ≤ g → g ≤ 7 →
    ((∀ n : Fin 7, n.val < g → decodeSel g n.val = some (.gp n)) ∧ decodeSel g g = some .xpos ∧
      decodeSel g (g + 1) = some .ypos ∧ decodeSel g (g + 2) = some .frame ∧ decodeSel g (g + 3) = some .imm ∧
      ∀ v, g + 4 ≤ v → decodeSel g v = none) ∧
    (∀ n : Fin 7, n.val < g → decodeDest g n.val = some (.gp n)) ∧ decodeDest g g = some .output ∧
      ∀ v, g + 1 ≤ v → decodeDest g v = none

/-- R114: the number of each opcode. 6 to 10 exist only with `EXT_CMP`; 11 and up are reserved.
The numbers are the spec's own decision D7. -/
def Obligations.OpcodeNumbering : Prop :=
  ∀ (e : Bool) (l r : Sel) (d : Dest) (v : Nat),
    instrOf e 0 l r d v = some (.not l r d v) ∧ instrOf e 1 l r d v = some (.and l r d v) ∧
    instrOf e 2 l r d v = some (.or l r d v) ∧ instrOf e 3 l r d v = some (.xor l r d v) ∧
    instrOf e 4 l r d v = some (.add l r d v) ∧ instrOf e 5 l r d v = some (.sub l r d v) ∧
    instrOf true 6 l r d v = some (.eq l r d v) ∧ instrOf true 7 l r d v = some (.gt l r d v) ∧
    instrOf true 8 l r d v = some (.gte l r d v) ∧ instrOf true 9 l r d v = some (.lt l r d v) ∧
    instrOf true 10 l r d v = some (.lte l r d v) ∧
    (∀ op, 6 ≤ op → instrOf false op l r d v = none) ∧ ∀ op, 11 ≤ op → instrOf e op l r d v = none

/-- R111, R117: an instruction decoded from a canonical word has its fields where the rule puts them: `left_op` in
[2:0], `right_op` in [5:3], `dest` in [8:6], `opcode` in [12:9], `immediate` in [44:13].
That the first field is the least significant is the spec's own decision D35. -/
def Obligations.DecodeReadsTheFiveFields : Prop :=
  ∀ (extCmp : Bool) (w : Nat) (i : Instr), decodeWord ⟨4, 32, extCmp⟩ w = .ok i →
    w < 2 ^ 45 ∧ decodeSel 4 (w % 8) = some i.left ∧ decodeSel 4 (w / 8 % 8) = some i.right ∧
    decodeDest 4 (w / 64 % 8) = some i.dest ∧ w / 512 % 16 = i.opcode ∧ w / 8192 % 2 ^ 32 = i.immediate

/-- R118, R119: the words that decode are exactly those of `ILEN` bits in which no field, used or not, holds a reserved
value.
Refusing reserved values is the spec's own decision D8; that a set padding bit is no word is the model's (log 14). -/
def Obligations.ValidWordsAreTheUnreservedOnes : Prop :=
  ∀ (f : Format) (w : Nat), 4 ≤ f.g → f.g ≤ 7 →
    ((∃ i, decodeWord f w = .ok i) ↔ w < 2 ^ ilen f ∧ Unreserved f w)

/-! ### The instructions: each completes in every state, with its result committed in every lane and nothing else
changed -/

/-- R220: NOT commits the complement of its left operand; its right operand has no effect; opcode 0. -/
def Obligations.NotCommitsTheComplement : Prop :=
  ∀ (l r : Sel) (d : Dest) (imm : Nat) (s : State), ∃ (t : State) (f : Lane → Word s.cfg.regWidth),
    exec (.not l r d imm) s = .next t ∧ CommitsInEveryLane s t d f ∧
    (∀ ln, (f ln).toNat = 2 ^ s.cfg.regWidth - 1 - (s.operand l imm ln).toNat) ∧
    (∀ r', exec (.not l r' d imm) s = .next t) ∧ HasOpcode (.not l r d imm) 0

/-- R221: AND commits the bits that are 1 in both operands; opcode 1. -/
def Obligations.AndCommitsTheCommonBits : Prop :=
  ∀ (l r : Sel) (d : Dest) (imm : Nat) (s : State), ∃ (t : State) (f : Lane → Word s.cfg.regWidth),
    exec (.and l r d imm) s = .next t ∧ CommitsInEveryLane s t d f ∧
    (∀ ln i, i < s.cfg.regWidth → ((f ln).getLsbD i = true ↔
      (s.operand l imm ln).getLsbD i = true ∧ (s.operand r imm ln).getLsbD i = true)) ∧
    HasOpcode (.and l r d imm) 1

/-- R222: OR commits the bits that are 1 in either operand; opcode 2. -/
def Obligations.OrCommitsTheBitsOfEither : Prop :=
  ∀ (l r : Sel) (d : Dest) (imm : Nat) (s : State), ∃ (t : State) (f : Lane → Word s.cfg.regWidth),
    exec (.or l r d imm) s = .next t ∧ CommitsInEveryLane s t d f ∧
    (∀ ln i, i < s.cfg.regWidth → ((f ln).getLsbD i = true ↔
      (s.operand l imm ln).getLsbD i = true ∨ (s.operand r imm ln).getLsbD i = true)) ∧
    HasOpcode (.or l r d imm) 2

/-- R223: XOR commits the bits that are 1 in exactly one operand; opcode 3. -/
def Obligations.XorCommitsTheDifferingBits : Prop :=
  ∀ (l r : Sel) (d : Dest) (imm : Nat) (s : State), ∃ (t : State) (f : Lane → Word s.cfg.regWidth),
    exec (.xor l r d imm) s = .next t ∧ CommitsInEveryLane s t d f ∧
    (∀ ln i, i < s.cfg.regWidth → ((f ln).getLsbD i = true ↔
      (s.operand l imm ln).getLsbD i ≠ (s.operand r imm ln).getLsbD i)) ∧
    HasOpcode (.xor l r d imm) 3

/-- R240: ADD commits the sum modulo `2^W`; opcode 4. -/
def Obligations.AddCommitsTheSum : Prop :=
  ∀ (l r : Sel) (d : Dest) (imm : Nat) (s : State), ∃ (t : State) (f : Lane → Word s.cfg.regWidth),
    exec (.add l r d imm) s = .next t ∧ CommitsInEveryLane s t d f ∧
    (∀ ln, (f ln).toNat = ((s.operand l imm ln).toNat + (s.operand r imm ln).toNat) % 2 ^ s.cfg.regWidth) ∧
    HasOpcode (.add l r d imm) 4

/-- R241: SUB commits left minus right modulo `2^W`; opcode 5. -/
def Obligations.SubCommitsTheDifference : Prop :=
  ∀ (l r : Sel) (d : Dest) (imm : Nat) (s : State), ∃ (t : State) (f : Lane → Word s.cfg.regWidth),
    exec (.sub l r d imm) s = .next t ∧ CommitsInEveryLane s t d f ∧
    (∀ ln, ((f ln).toNat : Int) = ((s.operand l imm ln).toNat - (s.operand r imm ln).toNat : Int) % 2 ^ s.cfg.regWidth) ∧
    HasOpcode (.sub l r d imm) 5

/-- R260: EQ commits 1 where the operands are equal, else 0; opcode 6; absent without `EXT_CMP`. -/
def Obligations.EqCommitsTheEquality : Prop :=
  ∀ (l r : Sel) (d : Dest) (imm : Nat) (s : State), ∃ (t : State) (f : Lane → Word s.cfg.regWidth),
    exec (.eq l r d imm) s = .next t ∧ CommitsInEveryLane s t d f ∧
    (∀ ln, f ln = if (s.operand l imm ln).toNat = (s.operand r imm ln).toNat then 1#_ else 0#_) ∧
    HasOpcode (.eq l r d imm) 6 ∧ NeedsExtCmp (.eq l r d imm)

/-- R261, R265: GT commits 1 where left is above right, read by `CMP_SIGNED`, else 0; opcode 7; absent without
`EXT_CMP`. -/
def Obligations.GtCommitsTheOrder : Prop :=
  ∀ (l r : Sel) (d : Dest) (imm : Nat) (s : State), ∃ (t : State) (f : Lane → Word s.cfg.regWidth),
    exec (.gt l r d imm) s = .next t ∧ CommitsInEveryLane s t d f ∧
    (s.cfg.cmpSigned = true → ∀ ln, f ln = if (s.operand r imm ln).toInt < (s.operand l imm ln).toInt then 1#_ else 0#_) ∧
    (s.cfg.cmpSigned = false → ∀ ln, f ln = if (s.operand r imm ln).toNat < (s.operand l imm ln).toNat then 1#_ else 0#_) ∧
    HasOpcode (.gt l r d imm) 7 ∧ NeedsExtCmp (.gt l r d imm)

/-- R262, R265: GTE commits 1 where left is not below right, read by `CMP_SIGNED`, else 0; opcode 8; absent without
`EXT_CMP`. -/
def Obligations.GteCommitsTheOrder : Prop :=
  ∀ (l r : Sel) (d : Dest) (imm : Nat) (s : State), ∃ (t : State) (f : Lane → Word s.cfg.regWidth),
    exec (.gte l r d imm) s = .next t ∧ CommitsInEveryLane s t d f ∧
    (s.cfg.cmpSigned = true → ∀ ln, f ln = if (s.operand l imm ln).toInt < (s.operand r imm ln).toInt then 0#_ else 1#_) ∧
    (s.cfg.cmpSigned = false → ∀ ln, f ln = if (s.operand l imm ln).toNat < (s.operand r imm ln).toNat then 0#_ else 1#_) ∧
    HasOpcode (.gte l r d imm) 8 ∧ NeedsExtCmp (.gte l r d imm)

/-- R263, R265: LT commits 1 where left is below right, read by `CMP_SIGNED`, else 0; opcode 9; absent without
`EXT_CMP`. -/
def Obligations.LtCommitsTheOrder : Prop :=
  ∀ (l r : Sel) (d : Dest) (imm : Nat) (s : State), ∃ (t : State) (f : Lane → Word s.cfg.regWidth),
    exec (.lt l r d imm) s = .next t ∧ CommitsInEveryLane s t d f ∧
    (s.cfg.cmpSigned = true → ∀ ln, f ln = if (s.operand l imm ln).toInt < (s.operand r imm ln).toInt then 1#_ else 0#_) ∧
    (s.cfg.cmpSigned = false → ∀ ln, f ln = if (s.operand l imm ln).toNat < (s.operand r imm ln).toNat then 1#_ else 0#_) ∧
    HasOpcode (.lt l r d imm) 9 ∧ NeedsExtCmp (.lt l r d imm)

/-- R264, R265: LTE commits 1 where left is not above right, read by `CMP_SIGNED`, else 0; opcode 10; absent without
`EXT_CMP`. -/
def Obligations.LteCommitsTheOrder : Prop :=
  ∀ (l r : Sel) (d : Dest) (imm : Nat) (s : State), ∃ (t : State) (f : Lane → Word s.cfg.regWidth),
    exec (.lte l r d imm) s = .next t ∧ CommitsInEveryLane s t d f ∧
    (s.cfg.cmpSigned = true → ∀ ln, f ln = if (s.operand r imm ln).toInt < (s.operand l imm ln).toInt then 0#_ else 1#_) ∧
    (s.cfg.cmpSigned = false → ∀ ln, f ln = if (s.operand r imm ln).toNat < (s.operand l imm ln).toNat then 0#_ else 1#_) ∧
    HasOpcode (.lte l r d imm) 10 ∧ NeedsExtCmp (.lte l r d imm)

/-! ### Operands, packing, and laws of the whole instruction set -/

/-- R191, R192, R293: what each selector reads in a lane, for values of the width the rules give them.
That `XPOS` and `YPOS` read the lane's `x_coord` and the shared `y_coord`, where R191's source quotes `x_pos` and `y_pos`, is
R293, the spec's own decision D19 (90_conflicts.md C7). A coordinate of `2^W` or more reads as a free value, of which nothing
is said (log 10). -/
def Obligations.OperandMultiplexer : Prop :=
  ∀ (s : State) (imm : Nat) (ln : Lane),
    (∀ (n : Fin 7) (v : Nat), ln.gp[n.val]? = some v → v < 2 ^ s.cfg.regWidth → (s.operand (.gp n) imm ln).toNat = v) ∧
    (ln.xCoord < 2 ^ s.cfg.regWidth → (s.operand .xpos imm ln).toNat = ln.xCoord) ∧
    (s.yCoord < 2 ^ s.cfg.regWidth → (s.operand .ypos imm ln).toNat = s.yCoord) ∧
    (s.frameCounter < 2 ^ s.cfg.regWidth → (s.operand .frame imm ln).toNat = s.frameCounter) ∧
    (imm < 2 ^ s.cfg.regWidth → (s.operand .imm imm ln).toNat = imm)

/-- R198, R16: packing keeps the low `3*C` bits of a result and discards the others; in the canonical order red is
[C-1:0], green [2C-1:C] and blue [3C-1:2C] of it, for every `C` and every `W`.
The channel order is the spec's own decision D21. -/
def Obligations.PackKeepsTheLowBits : Prop :=
  ∀ (c w : Nat) (v : Word w), pack c v = v.toNat % 2 ^ (3 * c) ∧ RgbOrder.rgb.red c (pack c v) = v.toNat % 2 ^ c ∧
    RgbOrder.rgb.green c (pack c v) = v.toNat / 2 ^ c % 2 ^ c ∧
    RgbOrder.rgb.blue c (pack c v) = v.toNat / 2 ^ (2 * c) % 2 ^ c

/-- R16, R344: under every channel order and every `C` the three slices are disjoint, so each channel placed is read back,
and every packed value is placed from its own channels. The canonical order is the spec's own decision D21. -/
def Obligations.ChannelsAreDisjoint : Prop :=
  ∀ (o : RgbOrder) (c : Nat),
    (∀ r g b, r < 2 ^ c → g < 2 ^ c → b < 2 ^ c → o.place c r g b < 2 ^ (3 * c) ∧
      o.red c (o.place c r g b) = r ∧ o.green c (o.place c r g b) = g ∧ o.blue c (o.place c r g b) = b) ∧
    ∀ v : Rgb, v < 2 ^ (3 * c) → o.place c (o.red c v) (o.green c v) (o.blue c v) = v

/-- R119: the immediate has no effect on an instruction, whatever its mnemonic, whose selectors are not `IMM`. -/
def Obligations.UnusedImmediateHasNoEffect : Prop :=
  ∀ (m : Mnemonic) (l r : Sel) (d : Dest) (v v' : Nat) (s : State), l ≠ .imm → r ≠ .imm →
    exec (m.build l r d v) s = exec (m.build l r d v') s

/-- R242, R265: `CMP_SIGNED` changes nothing for NOT, AND, OR, XOR, ADD, SUB and EQ, and nothing for GT, GTE, LT and LTE
where both operands are below `2^(W-1)` in every lane.
The agreement range is an inference the spec marks as its own (R265). -/
def Obligations.SignednessMattersOnlyToLargeOrderings : Prop :=
  ∀ (m : Mnemonic) (l r : Sel) (d : Dest) (v : Nat) (s : State) (b : Bool),
    (m ∈ [.gt, .gte, .lt, .lte] → ∀ ln ∈ s.lanes,
      (s.operand l v ln).toNat < 2 ^ (s.cfg.regWidth - 1) ∧ (s.operand r v ln).toNat < 2 ^ (s.cfg.regWidth - 1)) →
    ∃ t, exec (m.build l r d v) s = .next t ∧
      exec (m.build l r d v) { s with cfg := { s.cfg with cmpSigned := b } } =
        .next { t with cfg := { t.cfg with cmpSigned := b } }

/-- R266: the narrower variant is a strict subset. Without `EXT_CMP` no word with opcode 6 to 10 decodes and every word
that decodes is the same instruction with it; and every step of the narrower variant is the same step of the canonical
one.
R266 is an inference the spec marks as its own; the encoding is its decision D2. -/
def Obligations.NarrowerVariantIsASubset : Prop :=
  (∀ (f : Format) (w : Nat) (i : Instr), f.extCmp = false → decodeWord f w = .ok i →
    bitField w (opcodeLo f.g) opcodeWidth ≤ 5 ∧ decodeWord { f with extCmp := true } w = .ok i) ∧
  ∀ s t : State, s.cfg.extCmp = false → step s = .next t →
    step { s with cfg := { s.cfg with extCmp := true } } = .next { t with cfg := { t.cfg with extCmp := true } }

/-- R141 to R143, R145: an operand that assembles to `sel` and, where it is a literal, the immediate `imm`, makes MOV the
instruction OR of that operand with itself, which commits its value; NEG the instruction SUB from 0, which commits
`(0 - src) mod 2^W`, unless it is a literal other than 0, which has no room beside the literal 0; and CLR commits 0. A
literal in range assembles to `IMM` with `literal mod 2^W`, every other operand to its own selector; a line assembles where
its registers exist.
The notation is the spec's own decision D31. -/
def Obligations.PseudoInstructionsCommit : Prop :=
  (∀ (w : Nat) (v : Int), -(2 ^ (w - 1)) ≤ v → v ≤ 2 ^ w - 1 →
    (AsmOperand.literal v).assemble w = .ok (.imm, some (v % 2 ^ w).toNat)) ∧
  (∀ w, (∀ n, (AsmOperand.gp n).assemble w = .ok (.gp n, none)) ∧ AsmOperand.xpos.assemble w = .ok (.xpos, none) ∧
    AsmOperand.ypos.assemble w = .ok (.ypos, none) ∧ AsmOperand.frame.assemble w = .ok (.frame, none)) ∧
  ∀ (f : Format) (src : AsmOperand) (d : Dest) (sel : Sel) (imm : Option Nat) (s : State), 4 ≤ f.g →
    f.w = s.cfg.regWidth → src.assemble f.w = .ok (sel, imm) → sel.wf f.g = true → d.wf f.g = true →
    ((AsmLine.mov src d).assemble f = .ok (.or sel sel d (imm.getD 0)) ∧
      ∃ t g, exec (.or sel sel d (imm.getD 0)) s = .next t ∧ CommitsInEveryLane s t d g ∧
        ∀ ln, g ln = s.operand sel (imm.getD 0) ln) ∧
    (imm.getD 0 = 0 → (AsmLine.neg src d).assemble f = .ok (.sub .imm sel d 0) ∧
      ∃ t g, exec (.sub .imm sel d 0) s = .next t ∧ CommitsInEveryLane s t d g ∧
        ∀ ln, (g ln).toNat = (2 ^ s.cfg.regWidth - (s.operand sel 0 ln).toNat) % 2 ^ s.cfg.regWidth) ∧
    (imm.getD 0 ≠ 0 → (AsmLine.neg src d).assemble f = .error .twoLiterals) ∧
    (AsmLine.clr d).assemble f = .ok (.xor (.gp 0) (.gp 0) d 0) ∧
      ∃ t g, exec (.xor (.gp 0) (.gp 0) d 0) s = .next t ∧ CommitsInEveryLane s t d g ∧ ∀ ln, g ln = 0#_

/-- R144, R201: NOP is OR(GP0, GP0) -> GP0, and writing a register its own value, of `W` bits, changes no state.
The notation is the spec's own decision D31. -/
def Obligations.NopChangesNothing : Prop :=
  (∀ f : Format, 4 ≤ f.g → AsmLine.nop.assemble f = .ok (.or (.gp 0) (.gp 0) (.gp 0) 0)) ∧
  ∀ (n : Fin 7) (imm : Nat) (s : State), (∀ ln ∈ s.lanes, ln.readGp n < 2 ^ s.cfg.regWidth) →
    exec (.or (.gp n) (.gp n) (.gp n) imm) s = .next s

/-! ### Configuration checks -/

/-- R384, R385: a configuration that fails a check never runs: the step is refused with one of its failing checks as the
reason; and a configuration that fails none is never refused.
Which failing check is reported is a free value (log 8); that the checks stand in every step is the model's choice
(log 7). -/
def Obligations.RefusesExactlyFailingConfigurations : Prop :=
  ∀ s : State,
    (configErrors s.cfg ≠ [] → ∃ r ∈ configErrors s.cfg, step s = .refused (.config r)) ∧
    (configErrors s.cfg = [] → ∀ r, step s ≠ .refused r)

/-- R386: a Resolution field is refused exactly where it is 0 and is not a front porch; all six presets pass. -/
def Obligations.TimingFieldsChecked : Prop :=
  (∀ (c : Config) (f : TimingField),
    (ConfigError.badTiming .h f ∈ configErrors c ↔
      (f = .syncPulse ∧ c.res.h.syncPulse = 0) ∨ (f = .backPorch ∧ c.res.h.backPorch = 0) ∨
        (f = .visible ∧ c.res.h.visible = 0)) ∧
    (ConfigError.badTiming .v f ∈ configErrors c ↔
      (f = .syncPulse ∧ c.res.v.syncPulse = 0) ∨ (f = .backPorch ∧ c.res.v.backPorch = 0) ∨
        (f = .visible ∧ c.res.v.visible = 0))) ∧
  ∀ (c : Config) (a : Axis) (f : TimingField), c.res ∈ presets → ConfigError.badTiming a f ∉ configErrors c

/-- R387: for a legal register count, `ProgramSize` is refused unless `1 <= P <= N` and the table has exactly `P` words
of `ILEN` bits; and `InvalidInstruction(k)` exactly where word `k` is the first with a reserved field. Both
whether or not the Pixel Processor is instantiated.
The bound on `P` is the spec's own decision D14, the check of unused fields D36; a word with a set padding bit counts as
not `ILEN` bits (log 14). -/
def Obligations.ProgramChecked : Prop :=
  ∀ c : Config, 4 ≤ c.g → c.g ≤ 7 →
    (ConfigError.programSize ∈ configErrors c ↔
      ¬ (1 ≤ c.p ∧ c.p ≤ c.n ∧ c.prog.length = c.p ∧ ∀ w ∈ c.prog, w < 2 ^ ilen c.format)) ∧
    ∀ k, (ConfigError.invalidInstruction k ∈ configErrors c ↔
      (∃ w, c.prog[k]? = some w ∧ ¬ Unreserved c.format w) ∧
        ∀ j, j < k → ∀ w, c.prog[j]? = some w → Unreserved c.format w)

/-- R388 to R391: the stride, always; the Test Pattern geometry and the image table, each only where its generator is
instantiated; and the parameters `W`, `G`, `C`, `N` and `FW`.
R389 and R390 are the spec's own decisions D26 and D27; of the stride at `N = 0` nothing is said (log 22). -/
def Obligations.StrideGeneratorsAndParametersChecked : Prop :=
  ∀ c : Config,
    (1 ≤ c.n → (ConfigError.strideNotDivisor ∈ configErrors c ↔ c.res.h.visible % c.n ≠ 0)) ∧
    (ConfigError.testPatternTooSmall ∈ configErrors c ↔
      c.testPattern = true ∧ (c.res.h.visible / 2 ^ c.colorDepth = 0 ∨ c.res.v.visible / 8 = 0)) ∧
    (ConfigError.imageSize ∈ configErrors c ↔ c.still = true ∧
      (c.img.size ≠ c.res.h.visible * c.res.v.visible ∨ ∃ e ∈ c.img.cells, 2 ^ (3 * c.colorDepth) ≤ e.2)) ∧
    (ConfigError.badParameter .w ∈ configErrors c ↔ c.regWidth < 3 * c.colorDepth) ∧
    (ConfigError.badParameter .g ∈ configErrors c ↔ ¬ (4 ≤ c.g ∧ c.g ≤ 7)) ∧
    (ConfigError.badParameter .c ∈ configErrors c ↔ c.colorDepth = 0) ∧
    (ConfigError.badParameter .n ∈ configErrors c ↔ c.n = 0) ∧
    (ConfigError.badParameter .fw ∈ configErrors c ↔ c.frameWidth ≠ c.regWidth)

/-- R151, R152, R388: the pixel clock and the eight timing values of each of the six presets, and the values derived from
them; with `N = 8` each passes the stride check. -/
def Obligations.PresetTable : Prop :=
  presets.map (fun r => (r.pixelClockHz, (r.h.syncPulse, r.h.backPorch, r.h.visible, r.h.frontPorch),
      (r.v.syncPulse, r.v.backPorch, r.v.visible, r.v.frontPorch))) =
    [(25175000, (96, 48, 640, 16), (2, 33, 480, 10)), (40000000, (128, 88, 800, 40), (4, 23, 600, 1)),
     (65000000, (136, 160, 1024, 24), (6, 29, 768, 3)), (108000000, (136, 216, 1280, 80), (3, 30, 960, 1)),
     (108000000, (112, 248, 1280, 48), (3, 38, 1024, 1)), (162000000, (192, 304, 1600, 64), (3, 46, 1200, 1))] ∧
  presets.map (fun r => (r.h.prescan, r.h.overscan, r.h.fullscan)) =
    [(144, 160, 800), (216, 256, 1056), (296, 320, 1344), (352, 432, 1712), (360, 408, 1688), (496, 560, 2160)] ∧
  presets.map (fun r => (r.v.prescan, r.v.overscan, r.v.fullscan, r.h.fullscan * r.v.fullscan)) =
    [(35, 45, 525, 420000), (27, 28, 628, 663168), (35, 38, 806, 1083264), (33, 34, 994, 1701728),
     (41, 42, 1066, 1799408), (49, 50, 1250, 2700000)] ∧
  ∀ r ∈ presets, r.h.visible % 8 = 0

/-! ### The step -/

/-- R292, R203, R80: where the configuration passes its checks and no reset is asserted, a step runs the instruction that
the word at `pc` decodes to: `exec` makes the commits, and the clock edge steps every other register from the snapshot and
uses up one entry of the list of inputs. Without a Pixel Processor (R353) the clock edge alone is the step.
The list of inputs is the model's own (log 4), and so is the step without a Pixel Processor (log 13). -/
def Obligations.StepRunsTheDecodedInstruction : Prop :=
  (∀ (s : State) (w : Nat) (i : Instr), configErrors s.cfg = [] → s.rst = false → s.cfg.pixelProcessor = true →
    s.cfg.prog[s.pc]? = some w → decodeWord s.cfg.format w = .ok i →
    ∃ c t, exec i s = .next c ∧ step s = .next t ∧ t = s.clockEdge c ∧ t.inputs = s.inputs.tail) ∧
  ∀ s : State, configErrors s.cfg = [] → s.rst = false → s.cfg.pixelProcessor = false →
    ∃ t, step s = .next t ∧ t = s.clockEdge s ∧ t.inputs = s.inputs.tail

/-- R30 to R43: every register stays in its range and of its width, over every step, with or without reset.
That `sx` stays in step with the raster is the model's invariant behind R42. -/
def Obligations.EveryStepKeepsTheRanges : Prop :=
  ∀ s t : State, s.InRange → step s = .next t → t.InRange

/-- R412, R30 to R43: the registers are in their ranges right after reset, under any configuration that may run, and at
`State.reset`. The clause on `State.reset` rests on the model's choice of its configuration: the 640x480 preset and all
blocks (log 2), no program, where R32's `[0, P)` is empty and the range of `pc` is widened to hold 0 (log 5), and a black
image (log 6). -/
def Obligations.ResetIsInRange : Prop :=
  State.reset.InRange ∧ ∀ (c : Config) (is : List TickInput), ValidConfig c → (State.resetWith c is).InRange

/-- R380, R83, R384: in a configuration that passed its checks, no tick and no input stops the core in any state in
range, and from reset it runs for ever. -/
def Obligations.RunsForEver : Prop :=
  (∀ s : State, ValidConfig s.cfg → s.InRange → ∃ t, step s = .next t) ∧
  ∀ (c : Config) (is : List TickInput), ValidConfig c → ∀ k, ∃ t, Run c is k t ∧ t.InRange

/-- R46, R84, R93, R427: no step changes the configuration or either table, and no instruction changes anything but the
lanes' GP registers and output latches (R44). -/
def Obligations.TablesAreReadOnly : Prop :=
  (∀ s t : State, step s = .next t → t.cfg = s.cfg) ∧
  ∀ (i : Instr) (s : State), ∃ t, exec i s = .next t ∧ t = { s with lanes := t.lanes } ∧
    t.lanes.map Lane.xCoord = s.lanes.map Lane.xCoord

/-- R410 to R412: an edge with `rst` asserted gives every register its reset value 0, whatever the state is and whatever
else is asserted, and keeps the configuration. -/
def Obligations.ResetOverridesEverything : Prop :=
  ∀ s : State, configErrors s.cfg = [] → s.rst = true → ∃ t, step s = .next t ∧
    t.cfg = s.cfg ∧ t.scanCounter = 0 ∧ t.lineCounter = 0 ∧ t.pc = 0 ∧ t.yCoord = 0 ∧ t.frameCounter = 0 ∧
    t.lanes.length = s.cfg.n ∧
    (∀ ln ∈ t.lanes, ln.xCoord = 0 ∧ ln.out = 0 ∧ ln.gp.length = s.cfg.g ∧ ∀ v ∈ ln.gp, v = 0) ∧
    t.pixCount = 0 ∧ t.lineCount = 0 ∧ t.cellColCount = 0 ∧ t.cellRowCount = 0#3 ∧ t.sx = 0 ∧ t.sy = 0

/-- R414: a reset given at any state, in range or not, is followed by exactly the states that follow power-on under the
inputs that remain (the list of inputs is the model's own, log 4: the reset edge uses up one entry). -/
def Obligations.ResetReproducesThePowerOnRun : Prop :=
  ∀ s : State, configErrors s.cfg = [] → s.rst = true → ∀ (k : Nat) (t : State),
    Reaches s (k + 1) t ↔ Run s.cfg s.inputs.tail k t

/-! ### Timing Generator -/

/-- R160 to R168, R170: the signals, from the counters and the configuration.
The intermediates, the coordinates outside the window, the pulses' tick and the pin levels are the spec's own decisions D4,
D11, D12 and D9. -/
def Obligations.TimingSignals : Prop :=
  ∀ s : State,
    (s.hActive = true ↔ s.cfg.res.h.syncPulse + s.cfg.res.h.backPorch ≤ s.scanCounter ∧
      s.scanCounter < s.cfg.res.h.syncPulse + s.cfg.res.h.backPorch + s.cfg.res.h.visible) ∧
    (s.vActive = true ↔ s.cfg.res.v.syncPulse + s.cfg.res.v.backPorch ≤ s.lineCounter ∧
      s.lineCounter < s.cfg.res.v.syncPulse + s.cfg.res.v.backPorch + s.cfg.res.v.visible) ∧
    (s.hsync = true ↔ s.scanCounter < s.cfg.res.h.syncPulse) ∧ (s.vsync = true ↔ s.lineCounter < s.cfg.res.v.syncPulse) ∧
    (s.active = true ↔ s.hActive = true ∧ s.vActive = true) ∧
    s.xPos = min (s.scanCounter - (s.cfg.res.h.syncPulse + s.cfg.res.h.backPorch)) s.cfg.res.h.visible ∧
    s.yPos = min (s.lineCounter - (s.cfg.res.v.syncPulse + s.cfg.res.v.backPorch)) s.cfg.res.v.visible ∧
    (s.newLine = true ↔ s.scanCounter = s.cfg.res.h.syncPulse + s.cfg.res.h.backPorch ∧ s.vActive = true) ∧
    (s.newFrame = true ↔ s.scanCounter = s.cfg.res.h.syncPulse + s.cfg.res.h.backPorch ∧
      s.lineCounter = s.cfg.res.v.syncPulse + s.cfg.res.v.backPorch) ∧
    (s.hsyncPin = true ↔ s.hsync ≠ s.cfg.hsyncActiveLow) ∧ (s.vsyncPin = true ↔ s.vsync ≠ s.cfg.vsyncActiveLow)

/-- R153: one tick of the horizontal counter. -/
def Obligations.HorizontalCounterStep : Prop :=
  ∀ s : State, s.Ticks → ∃ t, step s = .next t ∧
    (s.scanCounter = s.cfg.res.h.fullscan - 1 → t.scanCounter = 0) ∧
    (s.scanCounter ≠ s.cfg.res.h.fullscan - 1 → t.scanCounter = s.scanCounter + 1)

/-- R154 (the spec's decision D10): one tick of the vertical counter, which advances exactly when the horizontal one
wraps. -/
def Obligations.VerticalCounterStep : Prop :=
  ∀ s : State, s.Ticks → ∃ t, step s = .next t ∧
    (s.scanCounter = s.cfg.res.h.fullscan - 1 → s.lineCounter = s.cfg.res.v.fullscan - 1 → t.lineCounter = 0) ∧
    (s.scanCounter = s.cfg.res.h.fullscan - 1 → s.lineCounter ≠ s.cfg.res.v.fullscan - 1 →
      t.lineCounter = s.lineCounter + 1) ∧
    (s.scanCounter ≠ s.cfg.res.h.fullscan - 1 → t.lineCounter = s.lineCounter)

/-- R155: from any state in range with no reset to come, the counters take every value pair exactly once in
`h.fullscan * v.fullscan` ticks, and `new_frame` pulses are exactly that far apart. -/
def Obligations.FramePeriod : Prop :=
  ∀ s : State, ValidConfig s.cfg → s.InRange → NoReset s.inputs →
    (∀ i j, i < s.cfg.res.h.fullscan → j < s.cfg.res.v.fullscan →
      ∃! k, k < s.cfg.res.h.fullscan * s.cfg.res.v.fullscan ∧
        ∃ u, Reaches s k u ∧ u.scanCounter = i ∧ u.lineCounter = j) ∧
    (s.newFrame = true → ∀ k u, Reaches s k u →
      (u.newFrame = true ↔ s.cfg.res.h.fullscan * s.cfg.res.v.fullscan ∣ k))

/-- R169 (b): in one frame period every pixel position is scanned on exactly one active tick. -/
def Obligations.EveryPixelOncePerFrame : Prop :=
  ∀ s : State, ValidConfig s.cfg → s.InRange → NoReset s.inputs →
    ∀ x y, x < s.cfg.width → y < s.cfg.height →
      ∃! k, k < s.cfg.res.h.fullscan * s.cfg.res.v.fullscan ∧
        ∃ u, Reaches s k u ∧ u.active = true ∧ u.xPos = x ∧ u.yPos = y

/-- R413: the counters at tick `k` after reset; no tick before `t0` is active; `new_frame` is at `t0`; and its edge sets
`pc`, the coordinates and `frame_counter`. -/
def Obligations.FirstFrameAfterReset : Prop :=
  ∀ (c : Config) (is : List TickInput), ValidConfig c → NoReset is → ∀ k, ∃ t, Run c is k t ∧
    t.scanCounter = k % c.res.h.fullscan ∧ t.lineCounter = k / c.res.h.fullscan % c.res.v.fullscan ∧
    (k < c.res.v.prescan * c.res.h.fullscan + c.res.h.prescan → t.active = false ∧ t.newFrame = false) ∧
    (k = c.res.v.prescan * c.res.h.fullscan + c.res.h.prescan → t.active = true ∧ t.newFrame = true) ∧
    (k = c.res.v.prescan * c.res.h.fullscan + c.res.h.prescan + 1 →
      c.pixelProcessor = true → t.pc = 0 ∧ t.yCoord = 0 ∧ t.frameCounter = 1 ∧ t.lanes.map Lane.xCoord = List.range c.n)

/-! ### Pixel Processor -/

/-- R295, R305, R306, R320: the sequencer's signals and the reference consumer's request.
The three signals are the spec's own decisions D15, D16 and D22; the inputs' list is the model's (log 4). -/
def Obligations.SequencerSignals : Prop :=
  ∀ s : State, ValidConfig s.cfg → s.InRange → s.cfg.pixelProcessor = true →
    (s.resultReady = true ↔ s.pc = s.cfg.p - 1) ∧ (s.effAdv = true ↔ s.adv = true ∧ s.active = true) ∧
    (s.endOfLine = true ↔ ∃ ln, s.lanes[s.cfg.n - 1]? = some ln ∧ ln.xCoord = s.cfg.width - 1) ∧
    (s.input.adv = .reference →
      (s.adv = true ↔ s.active = true ∧ s.resultReady = true ∧ s.xPos % s.cfg.n = 0)) ∧
    ∀ b, s.input.adv = .request b → s.adv = b

/-- R307: the program counter.
The hold outside the window and the reset at `new_frame` are the spec's own decision D15. -/
def Obligations.ProgramCounterStep : Prop :=
  ∀ s : State, s.PpTicks → ∃ t, step s = .next t ∧ t.pc < s.cfg.p ∧
    (s.newFrame = true → t.pc = 0) ∧
    (s.newFrame = false → s.active = true → s.effAdv = true → t.pc = 0) ∧
    (s.newFrame = false → s.active = true → s.effAdv = false → s.pc ≠ s.cfg.p - 1 → t.pc = s.pc + 1) ∧
    (s.newFrame = false → s.active = true → s.effAdv = false → s.pc = s.cfg.p - 1 → t.pc = s.pc) ∧
    (s.newFrame = false → s.active = false → t.pc = s.pc)

/-- R308: the lanes' coordinates.
The modulus is the spec's own decision D16. -/
def Obligations.LaneCoordinateStep : Prop :=
  ∀ s : State, s.PpTicks → ∃ t, step s = .next t ∧ t.lanes.length = s.lanes.length ∧
    ∀ (l : Nat) (ln : Lane), s.lanes[l]? = some ln → ∃ ln', t.lanes[l]? = some ln' ∧
      (s.newFrame = true ∨ (s.newLine = true ∧ s.effAdv = true) → ln'.xCoord = l) ∧
      (s.newFrame = false → s.newLine = false → s.effAdv = true → ln'.xCoord = (ln.xCoord + s.cfg.n) % s.cfg.width) ∧
      (s.newFrame = false → s.effAdv = false → ln'.xCoord = ln.xCoord)

/-- R309: the shared vertical coordinate.
The reset and the wrap are the spec's own decision D16. -/
def Obligations.VerticalCoordinateStep : Prop :=
  ∀ s : State, s.PpTicks → ∃ t, step s = .next t ∧
    (s.newFrame = true → t.yCoord = 0) ∧
    (s.newFrame = false → s.effAdv = true → s.endOfLine = true → t.yCoord = (s.yCoord + 1) % s.cfg.height) ∧
    (s.newFrame = false → s.effAdv = false ∨ s.endOfLine = false → t.yCoord = s.yCoord)

/-- R310: the frame counter.
The width is the spec's own decision D18. -/
def Obligations.FrameCounterStep : Prop :=
  ∀ s : State, s.PpTicks → ∃ t, step s = .next t ∧
    (s.newFrame = true → t.frameCounter = (s.frameCounter + 1) % 2 ^ s.cfg.frameWidth) ∧
    (s.newFrame = false → t.frameCounter = s.frameCounter)

/-- R312, R311: an edge does nothing to a lane's output latch and GP registers but the commit, except that with
`GP_FRAME_RESET` the edge of `new_frame` clears every GP register and overrides the commit to one.
`GP_FRAME_RESET` is OPEN (D17): both values are covered. -/
def Obligations.FrameBoundaryClear : Prop :=
  ∀ (s c : State) (i : Instr), s.PpTicks → s.fetch = some i → exec i s = .next c → ∃ t, step s = .next t ∧
    ∀ (l : Nat) (ln : Lane), c.lanes[l]? = some ln → ∃ ln', t.lanes[l]? = some ln' ∧ ln'.out = ln.out ∧
      (s.cfg.gpFrameReset = true ∧ s.newFrame = true → ln'.gp = List.replicate ln.gp.length 0) ∧
      (¬ (s.cfg.gpFrameReset = true ∧ s.newFrame = true) → ln'.gp = ln.gp)

/-- R313, R90: a lane's next registers depend on no other lane. -/
def Obligations.LanesAreIndependent : Prop :=
  ∀ (s₁ s₂ : State) (l : Nat) (ln : Lane), s₁.Ticks → s₂ = { s₁ with lanes := s₂.lanes } →
    s₁.lanes[l]? = some ln → s₂.lanes[l]? = some ln →
    ∃ t₁ t₂ ln', step s₁ = .next t₁ ∧ step s₂ = .next t₂ ∧ t₁.lanes[l]? = some ln' ∧ t₂.lanes[l]? = some ln'

/-- R353: any subset of the Pixel Processor and the two generators may be instantiated, and none depends on another. The
generators' next registers and outputs depend on no register, program or request of the Pixel Processor, nor on whether it
is there; the Pixel Processor's, on no register of a generator, nor on whether one is there; and each generator's, on none
of the other's.
That a block left out keeps its registers is the model's choice (log 12), and so is a flag for the Pixel Processor
(log 13). -/
def Obligations.GeneratorsAndProcessorAreIndependent : Prop :=
  (∀ s₁ s₂ : State, s₁.Ticks → s₂.Ticks →
    s₂ = { s₁ with cfg := { s₁.cfg with pixelProcessor := s₂.cfg.pixelProcessor, n := s₂.cfg.n, p := s₂.cfg.p,
                                        prog := s₂.cfg.prog },
                   pc := s₂.pc, yCoord := s₂.yCoord, frameCounter := s₂.frameCounter, lanes := s₂.lanes,
                   inputs := s₂.inputs } →
    s₁.tpRgb = s₂.tpRgb ∧ s₁.stRgb = s₂.stRgb ∧ ∃ t₁ t₂, step s₁ = .next t₁ ∧ step s₂ = .next t₂ ∧
      t₁.pixCount = t₂.pixCount ∧ t₁.lineCount = t₂.lineCount ∧ t₁.cellColCount = t₂.cellColCount ∧
      t₁.cellRowCount = t₂.cellRowCount ∧ t₁.sx = t₂.sx ∧ t₁.sy = t₂.sy) ∧
  (∀ s₁ s₂ : State, s₁.Ticks → s₂.Ticks →
    s₂ = { s₁ with cfg := { s₁.cfg with testPattern := s₂.cfg.testPattern, tpPattern := s₂.cfg.tpPattern,
                                        still := s₂.cfg.still, img := s₂.cfg.img },
                   pixCount := s₂.pixCount, lineCount := s₂.lineCount, cellColCount := s₂.cellColCount,
                   cellRowCount := s₂.cellRowCount, sx := s₂.sx, sy := s₂.sy } →
    ∃ t₁ t₂, step s₁ = .next t₁ ∧ step s₂ = .next t₂ ∧ t₁.pc = t₂.pc ∧ t₁.yCoord = t₂.yCoord ∧
      t₁.frameCounter = t₂.frameCounter ∧ t₁.lanes = t₂.lanes ∧ t₁.scanCounter = t₂.scanCounter ∧
      t₁.lineCounter = t₂.lineCounter) ∧
  (∀ s₁ s₂ : State, s₁.Ticks → s₂.Ticks →
    s₂ = { s₁ with cfg := { s₁.cfg with still := s₂.cfg.still, img := s₂.cfg.img }, sx := s₂.sx, sy := s₂.sy } →
    s₁.tpRgb = s₂.tpRgb ∧ ∃ t₁ t₂, step s₁ = .next t₁ ∧ step s₂ = .next t₂ ∧ t₁.pixCount = t₂.pixCount ∧
      t₁.lineCount = t₂.lineCount ∧ t₁.cellColCount = t₂.cellColCount ∧ t₁.cellRowCount = t₂.cellRowCount) ∧
  ∀ s₁ s₂ : State, s₁.Ticks → s₂.Ticks →
    s₂ = { s₁ with cfg := { s₁.cfg with testPattern := s₂.cfg.testPattern, tpPattern := s₂.cfg.tpPattern },
                   pixCount := s₂.pixCount, lineCount := s₂.lineCount, cellColCount := s₂.cellColCount,
                   cellRowCount := s₂.cellRowCount } →
    s₁.stRgb = s₂.stRgb ∧ ∃ t₁ t₂, step s₁ = .next t₁ ∧ step s₂ = .next t₂ ∧ t₁.sx = t₂.sx ∧ t₁.sy = t₂.sy

/-- R322, under the reference consumer: on every active tick that is neither an advance tick nor a `new_frame` tick,
the lanes hold the coordinates of the batch being scanned. (`new_frame` ticks are left out: on the first one after reset
with `P >= 2` the coordinates are still 0, as the trace of 95_test_vectors.md §2.6 shows; log 19.) -/
def Obligations.LaneCoordinatesFollowTheRaster : Prop :=
  ∀ (c : Config) (is : List TickInput) (k : Nat) (t : State), ValidConfig c → c.pixelProcessor = true →
    ReferenceOnly is → Run c is k t → t.active = true → t.newFrame = false → t.adv = false →
    t.yCoord = t.yPos ∧ t.lanes.map Lane.xCoord = (List.range c.n).map fun l => t.xPos / c.n * c.n + l

/-! ### Pixel source generators -/

/-- R342, R343: the Test Pattern counters, where that generator is instantiated.
The resets and the vertical advance are the spec's own decision D25. -/
def Obligations.TestPatternStep : Prop :=
  ∀ s : State, s.Ticks → s.cfg.testPattern = true → ∃ t, step s = .next t ∧
    (s.active = false → t.pixCount = 0 ∧ t.cellColCount = 0) ∧
    (s.active = true → s.pixCount = s.cfg.cellWidth - 1 →
      t.pixCount = 0 ∧ t.cellColCount = (s.cellColCount + 1) % 2 ^ s.cfg.colorDepth) ∧
    (s.active = true → s.pixCount ≠ s.cfg.cellWidth - 1 →
      t.pixCount = s.pixCount + 1 ∧ t.cellColCount = s.cellColCount) ∧
    (s.vActive = false → t.lineCount = 0 ∧ t.cellRowCount = 0#3) ∧
    (s.active = true → s.xPos = s.cfg.width - 1 → s.lineCount = s.cfg.cellHeight - 1 →
      t.lineCount = 0 ∧ t.cellRowCount.toNat = (s.cellRowCount.toNat + 1) % 8) ∧
    (s.active = true → s.xPos = s.cfg.width - 1 → s.lineCount ≠ s.cfg.cellHeight - 1 →
      t.lineCount = s.lineCount + 1 ∧ t.cellRowCount = s.cellRowCount) ∧
    (s.vActive = true → ¬ (s.active = true ∧ s.xPos = s.cfg.width - 1) →
      t.lineCount = s.lineCount ∧ t.cellRowCount = s.cellRowCount)

/-- R344: the Test Pattern output: black outside the active window, and inside it each channel is the column number where
its gate bit is 1, else 0.
The gate mapping and the combinational output are the spec's own decisions D24 and D26. -/
def Obligations.TestPatternOutput : Prop :=
  ∀ s : State,
    (s.active = false → s.tpRgb = 0) ∧
    (s.active = true → s.cellColCount < 2 ^ s.cfg.colorDepth → ∀ gate, s.cfg.tpPattern[s.cellRowCount.toNat]? = some gate →
      s.cfg.rgbOrder.red s.cfg.colorDepth s.tpRgb = (if gate.getLsbD 0 then s.cellColCount else 0) ∧
      s.cfg.rgbOrder.green s.cfg.colorDepth s.tpRgb = (if gate.getLsbD 1 then s.cellColCount else 0) ∧
      s.cfg.rgbOrder.blue s.cfg.colorDepth s.tpRgb = (if gate.getLsbD 2 then s.cellColCount else 0))

/-- R346: on every active tick of every run from reset, whatever the inputs, the Test Pattern counters are the closed form
of the raster position. -/
def Obligations.TestPatternClosedForm : Prop :=
  ∀ (c : Config) (is : List TickInput) (k : Nat) (t : State), ValidConfig c → c.testPattern = true → Run c is k t →
    t.active = true →
    t.pixCount = t.xPos % c.cellWidth ∧ t.cellColCount = t.xPos / c.cellWidth % 2 ^ c.colorDepth ∧
    t.lineCount = t.yPos % c.cellHeight ∧ t.cellRowCount.toNat = t.yPos / c.cellHeight % 8

/-- R348, R349, R350: the Still generator's effective position, output and next position, where it is instantiated.
The bypass and the out-of-range read are the spec's own decision D28. -/
def Obligations.StillStep : Prop :=
  ∀ s : State, s.Ticks → s.cfg.still = true → ∃ t, step s = .next t ∧
    (s.newLine = true → s.ex = 0) ∧ (s.newLine = false → s.ex = s.sx) ∧
    (s.newFrame = true → s.ey = 0) ∧
    (s.newFrame = false → s.newLine = true → s.ey = (s.sy + 1) % s.cfg.height) ∧
    (s.newFrame = false → s.newLine = false → s.ey = s.sy) ∧
    (s.active = false → s.stRgb = 0) ∧
    (s.active = true → s.ey * s.cfg.width + s.ex < s.cfg.width * s.cfg.height →
      s.stRgb = s.cfg.img.read (s.ey * s.cfg.width + s.ex)) ∧
    (s.active = true → s.cfg.width * s.cfg.height ≤ s.ey * s.cfg.width + s.ex → s.stRgb = 0) ∧
    (s.active = true → t.sx = s.ex + 1 ∧ t.sy = s.ey) ∧
    (s.active = false → t.sx = s.sx ∧ t.sy = s.sy)

/-- R351: on every active tick of every run from reset, whatever the inputs, the Still generator shows the image's pixel
at the raster position. -/
def Obligations.StillReproducesTheImage : Prop :=
  ∀ (c : Config) (is : List TickInput) (k : Nat) (t : State), ValidConfig c → c.still = true → Run c is k t →
    t.active = true →
    t.ex = t.xPos ∧ t.ey = t.yPos ∧ t.yPos * c.width + t.xPos < c.img.size ∧
    t.stRgb = c.img.read (t.yPos * c.width + t.xPos)
end

