-- ==== Sys2Proof/Laws/Memory.lean ====
section
/-! SUPPORT. The image table: what a read gives after a load, and that every load keeps the canonical form. -/

namespace Sys2Proof

theorem cellsWf_mono {size lo lo' : Nat} {l : List (Nat × Rgb)} (h : lo ≤ lo') (hw : cellsWf size lo' l = true) :
    cellsWf size lo l = true := by
  cases l with
  | nil => rfl
  | cons p rest =>
    obtain ⟨a, v⟩ := p
    simp only [cellsWf, Bool.and_eq_true, decide_eq_true_eq] at hw ⊢
    exact ⟨⟨⟨by omega, hw.1.1.2⟩, hw.1.2⟩, hw.2⟩

theorem putCell_wf {size lo k : Nat} {v : Rgb} {rest : List (Nat × Rgb)} (hlo : lo ≤ k) (hk : k < size)
    (hw : cellsWf size (k + 1) rest = true) : cellsWf size lo (putCell k v rest) = true := by
  unfold putCell
  split
  · exact cellsWf_mono (by omega) hw
  · next hv =>
    have hb : (v == 0) = false := by simpa using hv
    simp only [cellsWf, hlo, hk, hb, hw, decide_true, Bool.not_false, Bool.and_self]

theorem setCell_wf {size k : Nat} {v : Rgb} (hk : k < size) :
    ∀ {l : List (Nat × Rgb)} {lo : Nat}, lo ≤ k → cellsWf size lo l = true → cellsWf size lo (setCell l k v) = true
  | [], _, hlo, _ => putCell_wf hlo hk rfl
  | (a, u) :: rest, lo, hlo, hw => by
    simp only [cellsWf, Bool.and_eq_true, decide_eq_true_eq] at hw
    obtain ⟨⟨⟨hla, has⟩, hu⟩, hr⟩ := hw
    unfold setCell
    split
    · next hka =>
      refine putCell_wf hlo hk ?_
      simp only [cellsWf, Bool.and_eq_true, decide_eq_true_eq]
      exact ⟨⟨⟨by omega, has⟩, hu⟩, hr⟩
    · split
      · next hka => exact putCell_wf hlo hk (hka ▸ hr)
      · simp only [cellsWf, Bool.and_eq_true, decide_eq_true_eq]
        exact ⟨⟨⟨hla, has⟩, hu⟩, setCell_wf hk (by omega) hr⟩

/-- A load keeps the canonical form. -/
theorem Image.load_wf {m : Image} (k : Nat) (v : Rgb) (h : m.wf = true) : (m.load k v).wf = true := by
  unfold Image.load
  split
  · next hk => exact setCell_wf hk (Nat.zero_le k) h
  · exact h

/-- Loading a list of entries keeps the canonical form. -/
theorem Image.loadFrom_wf : ∀ (vs : List Rgb) {m : Image} (k : Nat), m.wf = true → (m.loadFrom k vs).wf = true
  | [], _, _, h => h
  | v :: vs, _, k, h => Image.loadFrom_wf vs (k + 1) (Image.load_wf k v h)

/-- A black table is in the canonical form. -/
@[simp] theorem Image.black_wf (size : Nat) : (Image.black size).wf = true := rfl

@[simp] theorem Image.load_size (m : Image) (k : Nat) (v : Rgb) : (m.load k v).size = m.size := by
  unfold Image.load; split <;> rfl

theorem lookupCell_of_lt {size : Nat} : ∀ {l : List (Nat × Rgb)} {lo j : Nat}, cellsWf size lo l = true → j < lo →
    lookupCell l j = 0
  | [], _, _, _, _ => rfl
  | (a, u) :: rest, lo, j, hw, hj => by
    simp only [cellsWf, Bool.and_eq_true, decide_eq_true_eq] at hw
    have hne : ¬ a = j := by omega
    simp only [lookupCell, hne, if_false]
    exact lookupCell_of_lt hw.2 (by omega)

/-- What an entry reads as when `k` is put before entries that are all above it. -/
theorem lookupCell_putCell {size k : Nat} {v : Rgb} {rest : List (Nat × Rgb)} (hw : cellsWf size (k + 1) rest = true)
    (j : Nat) : lookupCell (putCell k v rest) j = if j = k then v else lookupCell rest j := by
  unfold putCell
  split
  · next hv =>
    split
    · next hj => rw [hv, hj]; exact lookupCell_of_lt hw (Nat.lt_succ_self k)
    · rfl
  · by_cases hj : j = k
    · simp only [lookupCell, hj, if_true]
    · simp only [lookupCell, hj, if_false, if_neg fun h => hj (Eq.symm h)]

theorem lookupCell_setCell {size k : Nat} {v : Rgb} (j : Nat) :
    ∀ {l : List (Nat × Rgb)} {lo : Nat}, cellsWf size lo l = true →
      lookupCell (setCell l k v) j = if j = k then v else lookupCell l j
  | [], _, _ => lookupCell_putCell (size := 0) rfl j
  | (a, u) :: rest, lo, hw => by
    simp only [cellsWf, Bool.and_eq_true, decide_eq_true_eq] at hw
    obtain ⟨⟨⟨hla, has⟩, hu⟩, hr⟩ := hw
    unfold setCell
    split
    · next hka =>
      refine lookupCell_putCell (size := size) ?_ j
      simp only [cellsWf, Bool.and_eq_true, decide_eq_true_eq]
      exact ⟨⟨⟨by omega, has⟩, hu⟩, hr⟩
    · split
      · next hka =>
        rw [lookupCell_putCell (hka ▸ hr) j]
        by_cases hj : j = k
        · simp only [hj, if_true]
        · have haj : ¬ a = j := fun h => hj (by rw [hka, h])
          simp only [hj, if_false, lookupCell, haj]
      · next hka =>
        by_cases haj : a = j
        · have hjk : ¬ j = k := fun h => hka (by rw [← h, haj])
          simp only [lookupCell, haj, if_true, hjk, if_false]
        · simp only [lookupCell, haj, if_false, lookupCell_setCell j hr]

/-- What every entry reads as after a load of entry `k`. -/
theorem Image.read_load {m : Image} {k : Nat} (v : Rgb) (h : m.wf = true) (hk : k < m.size) (j : Nat) :
    (m.load k v).read j = if j = k then v else m.read j := by
  have hl : m.load k v = { m with cells := setCell m.cells k v } := by simp [Image.load, hk]
  rw [hl]
  by_cases hj : j < m.size
  · simp only [Image.read, hj, if_true]
    exact lookupCell_setCell j h
  · have hne : ¬ j = k := by omega
    simp [Image.read, hj, hne]

/-- A load outside the table changes nothing. -/
theorem Image.load_outside {m : Image} {k : Nat} (v : Rgb) (hk : ¬ k < m.size) : m.load k v = m := by
  simp [Image.load, hk]

/-- An index outside the table reads 0 (R85). -/
theorem Image.read_outside {m : Image} {k : Nat} (hk : ¬ k < m.size) : m.read k = 0 := by
  simp [Image.read, hk]

end Sys2Proof
end

