-- ==== Sys2Proof/Laws/State.lean ====
section
/-! SUPPORT. One lemma per field per update of the state, so that no later proof unfolds a record update. -/

namespace Sys2Proof.Machine

section reset
variable (c : Config) (is : List TickInput) (g : Nat)

@[simp] theorem Lane.reset_xCoord : (Lane.reset g).xCoord = 0 := rfl
@[simp] theorem Lane.reset_gp : (Lane.reset g).gp = List.replicate g 0 := rfl
@[simp] theorem Lane.reset_out : (Lane.reset g).out = 0 := rfl
@[simp] theorem State.resetWith_cfg : (State.resetWith c is).cfg = c := rfl
@[simp] theorem State.resetWith_scanCounter : (State.resetWith c is).scanCounter = 0 := rfl
@[simp] theorem State.resetWith_lineCounter : (State.resetWith c is).lineCounter = 0 := rfl
@[simp] theorem State.resetWith_pc : (State.resetWith c is).pc = 0 := rfl
@[simp] theorem State.resetWith_yCoord : (State.resetWith c is).yCoord = 0 := rfl
@[simp] theorem State.resetWith_frameCounter : (State.resetWith c is).frameCounter = 0 := rfl
@[simp] theorem State.resetWith_lanes : (State.resetWith c is).lanes = List.replicate c.n (Lane.reset c.g) := rfl
@[simp] theorem State.resetWith_pixCount : (State.resetWith c is).pixCount = 0 := rfl
@[simp] theorem State.resetWith_lineCount : (State.resetWith c is).lineCount = 0 := rfl
@[simp] theorem State.resetWith_cellColCount : (State.resetWith c is).cellColCount = 0 := rfl
@[simp] theorem State.resetWith_cellRowCount : (State.resetWith c is).cellRowCount = 0 := rfl
@[simp] theorem State.resetWith_sx : (State.resetWith c is).sx = 0 := rfl
@[simp] theorem State.resetWith_sy : (State.resetWith c is).sy = 0 := rfl
@[simp] theorem State.resetWith_inputs : (State.resetWith c is).inputs = is := rfl
end reset

section commit
variable (ln : Lane) (c : Nat) (n : Fin 7) (d : Dest) {w : Nat} (v : Word w)

@[simp] theorem Lane.commit_output_gp : (ln.commit c .output v).gp = ln.gp := rfl
@[simp] theorem Lane.commit_output_out : (ln.commit c .output v).out = pack c v := rfl
@[simp] theorem Lane.commit_gp_gp : (ln.commit c (.gp n) v).gp = ln.gp.set n.val v.toNat := rfl
@[simp] theorem Lane.commit_gp_out : (ln.commit c (.gp n) v).out = ln.out := rfl
@[simp] theorem Lane.commit_xCoord : (ln.commit c d v).xCoord = ln.xCoord := by cases d <;> rfl
end commit

section runLanes
variable (s : State) (op : Word s.cfg.regWidth → Word s.cfg.regWidth → Word s.cfg.regWidth) (l r : Sel) (d : Dest)
  (imm : Nat)

@[simp] theorem State.runLanes_cfg : (s.runLanes op l r d imm).cfg = s.cfg := rfl
@[simp] theorem State.runLanes_scanCounter : (s.runLanes op l r d imm).scanCounter = s.scanCounter := rfl
@[simp] theorem State.runLanes_lineCounter : (s.runLanes op l r d imm).lineCounter = s.lineCounter := rfl
@[simp] theorem State.runLanes_pc : (s.runLanes op l r d imm).pc = s.pc := rfl
@[simp] theorem State.runLanes_yCoord : (s.runLanes op l r d imm).yCoord = s.yCoord := rfl
@[simp] theorem State.runLanes_frameCounter : (s.runLanes op l r d imm).frameCounter = s.frameCounter := rfl
@[simp] theorem State.runLanes_lanes : (s.runLanes op l r d imm).lanes =
    s.lanes.map fun ln => ln.commit s.cfg.colorDepth d (op (s.operand l imm ln) (s.operand r imm ln)) := rfl
@[simp] theorem State.runLanes_pixCount : (s.runLanes op l r d imm).pixCount = s.pixCount := rfl
@[simp] theorem State.runLanes_lineCount : (s.runLanes op l r d imm).lineCount = s.lineCount := rfl
@[simp] theorem State.runLanes_cellColCount : (s.runLanes op l r d imm).cellColCount = s.cellColCount := rfl
@[simp] theorem State.runLanes_cellRowCount : (s.runLanes op l r d imm).cellRowCount = s.cellRowCount := rfl
@[simp] theorem State.runLanes_sx : (s.runLanes op l r d imm).sx = s.sx := rfl
@[simp] theorem State.runLanes_sy : (s.runLanes op l r d imm).sy = s.sy := rfl
@[simp] theorem State.runLanes_inputs : (s.runLanes op l r d imm).inputs = s.inputs := rfl
end runLanes

section stepLane
variable (s : State) (k : Nat) (ln : Lane)

@[simp] theorem State.stepLane_xCoord : (s.stepLane k ln).xCoord = s.nextX k ln.xCoord := rfl
@[simp] theorem State.stepLane_gp : (s.stepLane k ln).gp = if s.clearsGp then ln.gp.map (fun _ => 0) else ln.gp := rfl
@[simp] theorem State.stepLane_out : (s.stepLane k ln).out = ln.out := rfl
end stepLane

section clockEdge
variable (s c : State)

@[simp] theorem State.clockEdge_cfg : (s.clockEdge c).cfg = c.cfg := rfl
@[simp] theorem State.clockEdge_scanCounter : (s.clockEdge c).scanCounter = s.nextScan := rfl
@[simp] theorem State.clockEdge_lineCounter : (s.clockEdge c).lineCounter = s.nextLine := rfl
@[simp] theorem State.clockEdge_pc : (s.clockEdge c).pc = if s.cfg.pixelProcessor then s.nextPc else s.pc := rfl
@[simp] theorem State.clockEdge_yCoord : (s.clockEdge c).yCoord = if s.cfg.pixelProcessor then s.nextY else s.yCoord := rfl
@[simp] theorem State.clockEdge_frameCounter :
    (s.clockEdge c).frameCounter = if s.cfg.pixelProcessor then s.nextFrame else s.frameCounter := rfl
@[simp] theorem State.clockEdge_lanes :
    (s.clockEdge c).lanes = if s.cfg.pixelProcessor then c.lanes.mapIdx s.stepLane else c.lanes := rfl
@[simp] theorem State.clockEdge_pixCount :
    (s.clockEdge c).pixCount = if s.cfg.testPattern then s.nextPixCount else s.pixCount := rfl
@[simp] theorem State.clockEdge_lineCount :
    (s.clockEdge c).lineCount = if s.cfg.testPattern then s.nextLineCount else s.lineCount := rfl
@[simp] theorem State.clockEdge_cellColCount :
    (s.clockEdge c).cellColCount = if s.cfg.testPattern then s.nextCellCol else s.cellColCount := rfl
@[simp] theorem State.clockEdge_cellRowCount :
    (s.clockEdge c).cellRowCount = if s.cfg.testPattern then s.nextCellRow else s.cellRowCount := rfl
@[simp] theorem State.clockEdge_sx : (s.clockEdge c).sx = if s.cfg.still then s.nextSx else s.sx := rfl
@[simp] theorem State.clockEdge_sy : (s.clockEdge c).sy = if s.cfg.still then s.nextSy else s.sy := rfl
@[simp] theorem State.clockEdge_inputs : (s.clockEdge c).inputs = s.inputs.tail := rfl
end clockEdge

section withFetchWord
variable (s : State) (nbits w : Nat)

@[simp] theorem State.withFetchWord_prog :
    (s.withFetchWord nbits w).cfg.prog = [w % 2 ^ nbits] := rfl
@[simp] theorem State.withFetchWord_p : (s.withFetchWord nbits w).cfg.p = 1 := rfl
@[simp] theorem State.withFetchWord_pc : (s.withFetchWord nbits w).pc = 0 := rfl
@[simp] theorem State.withFetchWord_lanes : (s.withFetchWord nbits w).lanes = s.lanes := rfl
@[simp] theorem State.withFetchWord_scanCounter : (s.withFetchWord nbits w).scanCounter = s.scanCounter := rfl
@[simp] theorem State.withFetchWord_lineCounter : (s.withFetchWord nbits w).lineCounter = s.lineCounter := rfl
end withFetchWord

/-- The image table of `State.reset` is in its canonical form. -/
theorem State.reset_image_wf : State.reset.cfg.img.wf = true := rfl

end Sys2Proof.Machine
end

