-- ==== Sys2Proof/Laws/Ops.lean ====
section
/-! SUPPORT. What each shared operation can do, said once: the register file, the commit, one instruction in all lanes,
the fetch, and the step. -/

namespace Sys2Proof.Machine

/-- A register reads as it was last written; another register reads as before. -/
theorem Lane.readGp_commit (ln : Lane) (c : Nat) (n m : Fin 7) {w : Nat} (v : Word w) (h : n.val < ln.gp.length) :
    (ln.commit c (.gp n) v).readGp m = if m = n then v.toNat else ln.readGp m := by
  by_cases hm : m = n
  · subst hm
    simp [Lane.readGp, List.getD, h]
  · have hv : n.val ≠ m.val := fun hc => hm (Fin.ext hc.symm)
    simp [Lane.readGp, List.getD, hv, hm]

@[simp] theorem Lane.commit_gp_length (ln : Lane) (c : Nat) (d : Dest) {w : Nat} (v : Word w) :
    (ln.commit c d v).gp.length = ln.gp.length := by
  cases d <;> simp [Lane.commit]

/-- The bits of a packed value (R198). -/
theorem testBit_pack (c i : Nat) {w : Nat} (v : Word w) :
    (pack c v).testBit i = (decide (i < 3 * c) && v.getLsbD i) := by
  simp [pack, bitField, Nat.testBit_mod_two_pow, BitVec.getLsbD]

/-- A packed value has `3*C` bits. -/
theorem pack_lt (c : Nat) {w : Nat} (v : Word w) : pack c v < 2 ^ (3 * c) := Nat.mod_lt _ (Nat.two_pow_pos _)

/-- Everything a commit does (R197). -/
theorem Lane.commit_committedTo (ln : Lane) (c : Nat) (d : Dest) {w : Nat} (v : Word w) :
    ln.CommittedTo (ln.commit c d v) c d v := by
  cases d with
  | output => exact ⟨rfl, fun i => testBit_pack c i v, rfl⟩
  | gp n =>
    refine ⟨rfl, rfl, by simp, fun h => by rw [Lane.readGp_commit ln c n n v h, if_pos rfl], fun m hm => ?_⟩
    have hv : n.val ≠ m.val := fun hc => hm (Fin.ext hc.symm)
    simp [Lane.readGp, List.getD, hv]

/-- A commit keeps a lane in range, for results of the configured width. -/
theorem Lane.commit_inRange {c : Config} {ln : Lane} (h : ln.InRange c) (d : Dest) (v : Word c.regWidth) :
    (ln.commit c.colorDepth d v).InRange c := by
  obtain ⟨hx, hl, hg, ho⟩ := h
  cases d with
  | output => exact ⟨hx, hl, hg, pack_lt _ _⟩
  | gp n =>
    refine ⟨hx, by simpa using hl, fun u hu => ?_, ho⟩
    rcases List.mem_or_eq_of_mem_set hu with hu | rfl
    · exact hg u hu
    · exact v.isLt

section runLanes
variable (s : State) (op : Word s.cfg.regWidth → Word s.cfg.regWidth → Word s.cfg.regWidth) (l r : Sel) (d : Dest)
  (imm : Nat)

@[simp] theorem State.runLanes_length : (s.runLanes op l r d imm).lanes.length = s.lanes.length := by simp

/-- Lane `k` after one instruction in all lanes. -/
theorem State.runLanes_getElem? (k : Nat) :
    (s.runLanes op l r d imm).lanes[k]? =
      (s.lanes[k]?).map fun ln => ln.commit s.cfg.colorDepth d (op (s.operand l imm ln) (s.operand r imm ln)) := by
  simp

/-- One instruction in all lanes changes the lanes only. -/
theorem State.runLanes_frame : s.runLanes op l r d imm = { s with lanes := (s.runLanes op l r d imm).lanes } := rfl

/-- Everything one instruction in all lanes does: in every lane the commit of its result, and nothing else. -/
theorem State.runLanes_commits :
    CommitsInEveryLane s (s.runLanes op l r d imm) d (fun ln => op (s.operand l imm ln) (s.operand r imm ln)) :=
  ⟨rfl, by simp, fun k ln h => ⟨_, by rw [State.runLanes_getElem?, h]; rfl, Lane.commit_committedTo ..⟩⟩

end runLanes

/-- Every instruction is one operation in all lanes, on its own fields (R294). -/
theorem exec_runs_lanes (i : Instr) (s : State) :
    ∃ op, exec i s = .next (s.runLanes op i.left i.right i.dest i.immediate) := by
  cases i <;> exact ⟨_, rfl⟩

/-- What a step that answers a next state can have done: a reset edge; or the clock edge alone, without a Pixel Processor;
or the fetched instruction in all lanes and then the clock edge. -/
theorem step_next_cases {s t : State} (h : step s = .next t) :
    configErrors s.cfg = [] ∧
      ((s.rst = true ∧ t = s.resetEdge) ∨
        (s.rst = false ∧ s.cfg.pixelProcessor = false ∧ t = s.clockEdge s) ∨
        (s.rst = false ∧ s.cfg.pixelProcessor = true ∧ ∃ i op, s.fetch = some i ∧
          exec i s = .next (s.runLanes op i.left i.right i.dest i.immediate) ∧
          t = s.clockEdge (s.runLanes op i.left i.right i.dest i.immediate))) := by
  unfold step at h
  split at h
  · cases h
  · next hc =>
    refine ⟨hc, ?_⟩
    split at h
    · next hr =>
      refine .inl ⟨hr, ?_⟩
      injection h with h
      exact h.symm
    · next hr =>
      have hr : s.rst = false := by simpa using hr
      split at h
      · next hp =>
        injection h with h
        exact .inr (.inl ⟨hr, by simpa using hp, h.symm⟩)
      · next hp =>
        refine .inr (.inr ⟨hr, by simpa using hp, ?_⟩)
        split at h
        · cases h
        · next i hf =>
          obtain ⟨op, hop⟩ := exec_runs_lanes i s
          rw [hop] at h
          injection h with h
          exact ⟨i, op, hf, hop, h.symm⟩

/-- A fetched instruction is what the word at `pc` decodes to. -/
theorem fetch_eq_some {s : State} {i : Instr} :
    s.fetch = some i ↔ ∃ w, s.cfg.prog[s.pc]? = some w ∧ decodeWord s.cfg.format w = .ok i := by
  unfold State.fetch State.fetchWord
  cases hw : s.cfg.prog[s.pc]? with
  | none => simp
  | some w => cases hd : decodeWord s.cfg.format w <;> simp [hd]

/-- A run of `k + 1` steps is a step and a run of `k` steps. -/
theorem run_succ {M : Host.Core} {k : Nat} {s t : M.State} (h : M.run (k + 1) s = .next t) :
    ∃ u, M.step s = .next u ∧ M.run k u = .next t := by
  unfold Host.Core.run at h
  cases hu : M.step s with
  | next u =>
    rw [hu] at h
    exact ⟨u, rfl, h⟩
  | fault r =>
    rw [hu] at h
    cases h
  | refused r =>
    rw [hu] at h
    cases h

/-- A step before a chain of steps. -/
theorem reaches_cons {s u : State} (h : step s = .next u) : ∀ {k : Nat} {t : State}, Reaches u k t → Reaches s (k + 1) t
  | 0, _, ht => ⟨s, rfl, by rw [h, show _ = u from ht]⟩
  | _ + 1, _, ⟨v, hv, hs⟩ => ⟨v, reaches_cons h hv, hs⟩

/-- A run of `k` steps, as the host's interface runs the machine, is a chain of `k` steps. -/
theorem reaches_of_run : ∀ {k : Nat} {s t : State}, Host.Core.run Sys2Proof.core k s = .next t → Reaches s k t
  | 0, _, _, h => (Host.Outcome.next.inj h).symm
  | _ + 1, _, _, h =>
    let ⟨_, hu, hr⟩ := run_succ h
    reaches_cons hu (reaches_of_run hr)

end Sys2Proof.Machine
end

