-- ==== Sys2Proof/Laws/PerInstr.lean ====
section
/-! SUPPORT. Facts about every instruction as syntax, one lemma per constructor: its opcode number and its fields name
it again (R114). -/

namespace Sys2Proof.Laws

/-- The opcode number is one of R114's, and with the instruction's own fields it names the instruction, wherever the
comparison set it may need exists. -/
def Rebuild.Statement (i : Instr) : Prop :=
  i.opcode ≤ 10 ∧ ∀ extCmp : Bool, (extCmp || !i.isCompare) = true →
    instrOf extCmp i.opcode i.left i.right i.dest i.immediate = some i

theorem Rebuild.not (l r : Sel) (d : Dest) (v : Nat) : Rebuild.Statement (.not l r d v) :=
  ⟨Nat.le_of_ble_eq_true rfl, fun _ _ => rfl⟩
theorem Rebuild.and (l r : Sel) (d : Dest) (v : Nat) : Rebuild.Statement (.and l r d v) :=
  ⟨Nat.le_of_ble_eq_true rfl, fun _ _ => rfl⟩
theorem Rebuild.or (l r : Sel) (d : Dest) (v : Nat) : Rebuild.Statement (.or l r d v) :=
  ⟨Nat.le_of_ble_eq_true rfl, fun _ _ => rfl⟩
theorem Rebuild.xor (l r : Sel) (d : Dest) (v : Nat) : Rebuild.Statement (.xor l r d v) :=
  ⟨Nat.le_of_ble_eq_true rfl, fun _ _ => rfl⟩
theorem Rebuild.add (l r : Sel) (d : Dest) (v : Nat) : Rebuild.Statement (.add l r d v) :=
  ⟨Nat.le_of_ble_eq_true rfl, fun _ _ => rfl⟩
theorem Rebuild.sub (l r : Sel) (d : Dest) (v : Nat) : Rebuild.Statement (.sub l r d v) :=
  ⟨Nat.le_of_ble_eq_true rfl, fun _ _ => rfl⟩
theorem Rebuild.eq (l r : Sel) (d : Dest) (v : Nat) : Rebuild.Statement (.eq l r d v) :=
  ⟨Nat.le_of_ble_eq_true rfl, fun
    | true, _ => rfl
    | false, h => Bool.noConfusion h⟩
theorem Rebuild.gt (l r : Sel) (d : Dest) (v : Nat) : Rebuild.Statement (.gt l r d v) :=
  ⟨Nat.le_of_ble_eq_true rfl, fun
    | true, _ => rfl
    | false, h => Bool.noConfusion h⟩
theorem Rebuild.gte (l r : Sel) (d : Dest) (v : Nat) : Rebuild.Statement (.gte l r d v) :=
  ⟨Nat.le_of_ble_eq_true rfl, fun
    | true, _ => rfl
    | false, h => Bool.noConfusion h⟩
theorem Rebuild.lt (l r : Sel) (d : Dest) (v : Nat) : Rebuild.Statement (.lt l r d v) :=
  ⟨Nat.le_of_ble_eq_true rfl, fun
    | true, _ => rfl
    | false, h => Bool.noConfusion h⟩
theorem Rebuild.lte (l r : Sel) (d : Dest) (v : Nat) : Rebuild.Statement (.lte l r d v) :=
  ⟨Nat.le_of_ble_eq_true rfl, fun
    | true, _ => rfl
    | false, h => Bool.noConfusion h⟩

end Sys2Proof.Laws
end

