-- ==== Sys2Proof/Tests/Slice0.lean ====
section
/-! SUPPORT. The model's own tests. Expected values are the spec's: 95_test_vectors.md and the worked examples of its
rules; the smoke test of well-formedness; and, named witness_<what>, states and operands that meet the hypotheses of the
statements. -/

namespace Sys2Proof.Tests

open Sys2Proof.Machine

/-! ### Well-formedness: a term that each check refuses -/

theorem test_wf_accepts : (Instr.lte (.gp 3) .imm (.gp 3) 7).wf .canonical = true := by decide
theorem test_wf_left_register : (Instr.add (.gp 4) .imm .output 0).wf .canonical = false := by decide
theorem test_wf_right_register : (Instr.not .xpos (.gp 4) .output 0).wf .canonical = false := by decide
theorem test_wf_dest_register : (Instr.add .xpos .imm (.gp 4) 0).wf .canonical = false := by decide
theorem test_wf_compare_absent : (Instr.eq .xpos .imm .output 0).wf ⟨4, 32, false⟩ = false := by decide
theorem test_wf_seven_registers : (Instr.add (.gp 6) .imm (.gp 6) 0).wf ⟨7, 32, true⟩ = true := by decide
theorem test_wf_wide_immediate : (Instr.add .xpos .imm .output 0x100000000).wf .canonical = false := by decide

/-! ### Decoding: every constructor by a word written out from the layout
`immediate(32) opcode(4) dest(3) right(3) left(3)` (R111) with the numbers of R112 to R114 -/

theorem test_decode_not : decodeTableWord 48 0b00000000000000000000000000000000_0000_100_000_100 =
    some (.not .xpos (.gp 0) .output 0) := by decide
theorem test_decode_and : decodeTableWord 48 0b00000000000000000000111111111111_0001_100_111_000 =
    some (.and (.gp 0) .imm .output 0xFFF) := by decide
theorem test_decode_or : decodeTableWord 48 0b00000000000000000000000011110000_0010_100_111_111 =
    some (.or .imm .imm .output 0xF0) := by decide
theorem test_decode_xor : decodeTableWord 48 0b00000000000000000000000000000000_0011_100_101_100 =
    some (.xor .xpos .ypos .output 0) := by decide
theorem test_decode_add : decodeTableWord 48 0b00000000000000000000000000000000_0100_000_110_100 =
    some (.add .xpos .frame (.gp 0) 0) := by decide
theorem test_decode_sub : decodeTableWord 48 0b00000000000000000000000000000000_0101_100_001_111 =
    some (.sub .imm (.gp 1) .output 0) := by decide
theorem test_decode_eq : decodeTableWord 48 0b00000000000000000000000000010000_0110_010_111_100 =
    some (.eq .xpos .imm (.gp 2) 0x10) := by decide
theorem test_decode_gt : decodeTableWord 48 0b00000000000000000000000100111111_0111_000_111_100 =
    some (.gt .xpos .imm (.gp 0) 319) := by decide
theorem test_decode_gte : decodeTableWord 48 0b00000000000000000000000011110000_1000_001_111_101 =
    some (.gte .ypos .imm (.gp 1) 240) := by decide
theorem test_decode_lt : decodeTableWord 48 0b00000000000000000000000000000100_1001_001_111_100 =
    some (.lt .xpos .imm (.gp 1) 4) := by decide
theorem test_decode_lte : decodeTableWord 48 0b11111111111111111111111111111111_1010_100_111_111 =
    some (.lte .imm .imm .output 0xFFFFFFFF) := by decide

/-- 95 §2.2: the words with a reserved field, and the padding of R124. -/
theorem test_decode_reserved :
    decodeWord .canonical 0x144 = .error .reservedDest ∧ decodeWord .canonical 0x1704 = .error .reservedOpcode ∧
    decodeWord .canonical 0x1E04 = .error .reservedOpcode ∧ decodeWord ⟨4, 32, false⟩ 0xD04 = .error .reservedOpcode ∧
    decodeWord .canonical 0xD04 = .ok (.eq .xpos (.gp 0) .output 0) ∧
    decodeWord .canonical 0x200000000000 = .error .paddingNotZero ∧
    decodeWord ⟨5, 32, true⟩ 0x9 = .error .reservedLeftOp ∧ decodeWord ⟨5, 32, true⟩ 0x90 = .error .reservedRightOp ∧
    decodeBytes .canonical [4, 1] = .error .tooFewBytes := by decide
/-- 95 §2.2: words and bytes of assembled lines. -/
theorem test_encode :
    encodeWord 4 (.sub .xpos .ypos .output 0) = 0xB2C ∧ encodeWord 4 (.add (.gp 0) .imm (.gp 0) 1) = 0x2838 ∧
    encodeBytes .canonical (.and (.gp 0) .imm .output 0xFFF) = [0x38, 0xE3, 0xFF, 0x01, 0x00, 0x00] := by decide
/-- R111, R115, R124 at `W = 8`: `AND(GP0, 0x3F) -> OUTPUT` has 21 bits in three bytes. -/
theorem test_narrow_word : encodeBytes ⟨4, 8, true⟩ (.and (.gp 0) .imm .output 0x3F) = [0x38, 0xE3, 0x07] ∧
    decodeWord ⟨4, 8, true⟩ 0b00111111_0001_100_111_000 = .ok (.and (.gp 0) .imm .output 0x3F) ∧
    decodeWord ⟨4, 8, true⟩ 0x200000 = .error .paddingNotZero := by decide

/-! ### The assembler notation (95 §2.2) -/

theorem test_assemble_program :
    assembleProgram .canonical "ADD(XPOS, FRAME) -> GP0 ; sum\n\nAND(GP0, 0xFFF) → OUTPUT".toList = .ok [0x834, 0x1FFE338] := by
  decide
theorem test_assemble_pseudo :
    assembleProgram .canonical "NOP\nMOV(0x0F0) -> OUTPUT\nNEG(XPOS) -> GP3\nCLR -> GP2".toList =
      .ok [0x400, 0x1E053F, 0xAE7, 0x680] := by decide
theorem test_assemble_errors :
    assembleProgram .canonical "ADD(1, 2) -> GP0".toList = .error .twoLiterals ∧
    assembleProgram .canonical "EQ(0xFFFFFFFF, -1) -> GP0".toList = .ok [0x1FFFFFFFEC3F] ∧
    assembleProgram .canonical "ADD(XPOS, 0x100000000) -> GP0".toList = .error .literalRange ∧
    assembleProgram .canonical "ADD(XPOS, GP5) -> GP0".toList = .error .noSuchRegister ∧
    assembleProgram .canonical "ADD(XPOS) -> GP0".toList = .error .badLine := by decide
theorem test_disassemble :
    (Instr.sub .xpos .ypos .output 0).disassemble = "SUB(XPOS, YPOS) -> OUTPUT".toList ∧
    (Instr.not .imm (.gp 2) (.gp 3) 0xFFF).disassemble = "NOT(0xFFF) -> GP3".toList := by decide

/-! ### Small configurations and states -/

/-- Configuration `T` of 95 §2.6 with the given program. -/
def tiny (ws : List Nat) : Config :=
  { Config.canonical.loadProgram ws with
    res := ⟨0, ⟨2, 2, 8, 1⟩, ⟨1, 1, 3, 1⟩⟩
    n := 4
    testPattern := false
    cmpSigned := false
    gpFrameReset := false
    hsyncActiveLow := false
    vsyncActiveLow := false
    img := (Image.black 24).loadFrom 0 (List.range 24) }

/-- 640×480 with `XOR(XPOS, YPOS) -> OUTPUT`, without the Still generator. -/
def vga : Config := { Config.canonical.loadProgram [0x72C] with still := false }

/-- The smallest raster: two pixels a line, one line, two lanes. -/
def micro : Config :=
  { tiny [0x72C] with res := ⟨0, ⟨1, 1, 2, 0⟩, ⟨1, 1, 1, 0⟩⟩, n := 2, img := ⟨2, [(1, 5)]⟩ }

/-- The smallest raster with a Test Pattern grid, one lane. -/
def grid : Config :=
  { tiny [0x72C] with res := ⟨0, ⟨1, 1, 16, 0⟩, ⟨1, 1, 8, 0⟩⟩, n := 1, testPattern := true, still := false }

/-- Configuration `T` with 8-bit registers and 2-bit channels. -/
def narrow (ws : List Nat) : Config :=
  { tiny ws with regWidth := 8, frameWidth := 8, colorDepth := 2 }

/-- Configuration `T` without a Pixel Processor; its program and stride are checked all the same. -/
def noProcessor : Config := { tiny [0x72C] with pixelProcessor := false }

/-- One lane with the given operands, under configuration `T` and the given signedness. -/
def bench (signed : Bool) (x y f g0 g1 : Nat) : State :=
  { State.resetWith { tiny [0x72C] with cmpSigned := signed } [] with
    yCoord := y, frameCounter := f, lanes := [⟨x, [g0, g1, 0, 0], 0⟩] }

/-- The first lane after an instruction. -/
def laneAfter (i : Instr) (s : State) : Option Lane :=
  match exec i s with
  | .next t => t.lanes[0]?
  | .fault _ => none
  | .refused _ => none

/-- The result an instruction leaves in `GP3` of the first lane. -/
def resultOf (i : Sel → Sel → Dest → Nat → Instr) (signed : Bool) (a b : Nat) : Option Nat :=
  (laneAfter (i (.gp 0) (.gp 1) (.gp 3) 0) (bench signed 0 0 0 a b)).map fun ln => ln.readGp 3

/-- Configuration `T` at the given counters and `pc`, its lanes at the last batch of a line, with the given inputs. -/
def at' (c : Config) (scan line pc : Nat) (is : List TickInput) : State :=
  { State.resetWith c is with
    scanCounter := scan, lineCounter := line, pc := pc, yCoord := 1, frameCounter := 0xFFFFFFFF,
    lanes := [⟨4, [1, 2, 3, 4], 5⟩, ⟨5, [1, 2, 3, 4], 5⟩, ⟨6, [1, 2, 3, 4], 5⟩, ⟨7, [1, 2, 3, 4], 5⟩] }

/-- A fact about the state after one step. -/
def afterStep {α : Type} (f : State → α) (s : State) : Option α :=
  match step s with
  | .next t => some (f t)
  | .fault _ => none
  | .refused _ => none

/-! ### The instructions -/

/-- R220: the source's example. -/
theorem test_not : (laneAfter (.not .xpos (.gp 0) .output 0) (bench false 0x2A5 0 0 0 0)).map Lane.out = some 0xD5A := by
  decide
theorem test_not_gp : resultOf .not false 0x2A5 0xFFFFFFFF = some 0xFFFFFD5A := by decide
/-- R221. -/
theorem test_and : (laneAfter (.and .xpos .imm (.gp 1) 0xF0) (bench false 0x2A5 0 0 7 7)).map Lane.gp =
    some [7, 0xA0, 0, 0] := by decide
/-- R222. -/
theorem test_or : (laneAfter (.or .xpos .ypos .output 0) (bench false 0x2A5 0x1C 0 0 0)).map Lane.out = some 0x2BD := by
  decide
/-- R223. -/
theorem test_xor : (laneAfter (.xor .xpos .ypos .output 0) (bench false 0x2A5 0x1C 0 0 0)).map Lane.out = some 0x2B9 := by
  decide
/-- R240. -/
theorem test_add : (laneAfter (.add .xpos .frame (.gp 0) 0) (bench false 0x27F 0 3 9 0)).map (fun ln => ln.readGp 0) =
    some 0x282 := by decide
theorem test_add_wraps : resultOf .add false 0xFFFFFFFF 1 = some 0 ∧ resultOf .add false 0x7FFFFFFF 1 = some 0x80000000 := by
  decide
/-- R241, with the corrected value of 90_conflicts.md C1. -/
theorem test_sub : (laneAfter (.sub .xpos .ypos .output 0) (bench false 0x123 0x345 0 0 0)).map Lane.out = some 0xDDE := by
  decide
theorem test_sub_wraps : resultOf .sub false 0 1 = some 0xFFFFFFFF := by decide
/-- 95 §2.5, both readings. -/
theorem test_eq : resultOf .eq true 0x10 0x10 = some 1 ∧ resultOf .eq false 0x11 0x10 = some 0 := by decide
theorem test_gt : resultOf .gt false 0xFFFFFFFF 1 = some 1 ∧ resultOf .gt true 0xFFFFFFFF 1 = some 0 ∧
    resultOf .gt false 7 7 = some 0 := by decide
theorem test_gte : resultOf .gte false 7 7 = some 1 ∧ resultOf .gte true 0xFFFFFFFF 1 = some 0 := by decide
theorem test_lt : resultOf .lt false 1 0xFFFFFFFF = some 1 ∧ resultOf .lt true 1 0xFFFFFFFF = some 0 ∧
    resultOf .lt true 0xFFFFFFFF 1 = some 1 := by decide
theorem test_lte : resultOf .lte false 0x80000000 0x7FFFFFFF = some 0 ∧ resultOf .lte true 0x80000000 0x7FFFFFFF = some 1 ∧
    resultOf .lte false 5 5 = some 1 := by decide
/-- R201: a source that is also the destination is read before it is written. -/
theorem test_source_is_destination :
    (laneAfter (.add (.gp 0) .imm (.gp 0) 1) (bench false 0 0 0 5 0)).map (fun ln => ln.readGp 0) = some 6 := by decide

/-- R9, R11, R198 at `W = 8` and `C = 2`: a sum modulo 256, and the low 6 bits of a complement. -/
theorem test_narrow :
    (laneAfter (.add (.gp 0) .imm (.gp 0) 0xFF) { State.resetWith (narrow [0x72C]) [] with
      lanes := [⟨0, [2, 0, 0, 0], 0⟩] }).map Lane.gp = some [1, 0, 0, 0] ∧
    (laneAfter (.not .xpos (.gp 0) .output 0) { State.resetWith (narrow [0x72C]) [] with
      lanes := [⟨5, [0, 0, 0, 0], 0⟩] }).map Lane.out = some 0b111010 := by decide

/-! ### Steps, checks and signals -/

/-- R391: each parameter's check. -/
theorem test_parameter_checks :
    configErrors { narrow [0x72C] with regWidth := 5, frameWidth := 5 } = [.badParameter .w] ∧
    configErrors { narrow [0x72C] with colorDepth := 0 } = [.badParameter .c, .imageSize] ∧
    configErrors { tiny [0x72C] with frameWidth := 16 } = [.badParameter .fw] ∧
    configErrors { tiny [0x72C] with colorDepth := 1 } = [.imageSize] := by decide
/-- R353: without a Pixel Processor, the timing and the Still generator go on and the lanes stay as they are. -/
theorem test_no_processor : configErrors noProcessor = [] ∧
    afterStep (fun t => (t.scanCounter, t.sx, t.pc, t.frameCounter, t.lanes)) { State.resetWith noProcessor [] with
      scanCounter := 4, lineCounter := 2 } = some (5, 1, 0, 0, List.replicate 4 ⟨0, [0, 0, 0, 0], 0⟩) ∧
    (State.resetWith noProcessor []).outputs.out = none := by decide
/-- R384, R387, R388: the program and the stride are checked without a Pixel Processor too. -/
theorem test_no_processor_checks : configErrors (noProcessor.loadProgram []) = [.programSize] ∧
    configErrors (noProcessor.loadProgram [0x144]) = [.invalidInstruction 0] ∧
    configErrors { noProcessor with n := 3 } = [.strideNotDivisor] := by decide

/-- The first instruction after reset, placed by `withFetchWord`, runs: `NOT(FRAME) -> OUTPUT` in all eight lanes. -/
theorem test_first_instruction :
    afterStep (fun t => t.lanes.map Lane.out) (State.reset.withFetchWord 48 0x106) = some (List.replicate 8 0xFFF) := by
  decide
/-- `State.reset` itself has no program, so it is refused (log 5). -/
theorem test_reset_has_no_program : step State.reset = .refused (.config .programSize) := rfl
/-- 95 §2.6: the last tick of a frame wraps both counters. -/
theorem test_counters_wrap :
    afterStep (fun t => (t.scanCounter, t.lineCounter)) (at' (tiny [0x72C]) 12 5 0 []) = some (0, 0) := by decide
/-- 95 §2.6, t43: an advance at the start of a line. -/
theorem test_new_line_advance :
    afterStep (fun t => (t.pc, t.lanes.map Lane.xCoord, t.yCoord)) (at' (tiny [0x834, 0x1FFE338]) 4 3 1 []) =
      some (0, [0, 1, 2, 3], 2) := by decide
/-- 95 §2.6, t108: `new_frame` wins over the advance; `frame_counter` wraps (R34). -/
theorem test_new_frame :
    afterStep (fun t => (t.pc, t.lanes.map Lane.xCoord, t.yCoord, t.frameCounter))
      (at' (tiny [0x834, 0x1FFE338]) 4 2 1 []) = some (0, [0, 1, 2, 3], 0, 0) := by decide
/-- R312: the frame-boundary clear overrides the commit. -/
theorem test_frame_clear :
    afterStep (fun t => t.lanes.map Lane.gp) (at' { tiny [0x2838] with gpFrameReset := true } 4 2 0 []) =
      some (List.replicate 4 [0, 0, 0, 0]) := by decide
/-- R410: an asserted reset wins over everything. -/
theorem test_reset_edge :
    afterStep (fun t => (t.scanCounter, t.frameCounter, t.lanes)) (at' (tiny [0x2838]) 4 2 0 [⟨true, .request true⟩]) =
      some (0, 0, List.replicate 4 ⟨0, [0, 0, 0, 0], 0⟩) := by decide
/-- 95 §2.7: the colour of pixel (200, 420). -/
theorem test_test_pattern :
    (State.tpRgb { State.resetWith vga [] with
      scanCounter := 344, lineCounter := 455, cellColCount := 5, cellRowCount := 7 }) = 0x555 := by decide
/-- 95 §2.8, t43 and t109: the effective position, the pixel and the next position. -/
theorem test_still :
    (State.stRgb { at' (tiny [0x72C]) 4 3 0 [] with sx := 8, sy := 0 }) = 0x008 ∧
    afterStep (fun t => (t.sx, t.sy)) { at' (tiny [0x72C]) 4 2 0 [] with sx := 8, sy := 2 } = some (1, 0) := by decide
/-- 95 §2.9. -/
theorem test_checks :
    configErrors vga = [] ∧ configErrors { vga with res := ⟨0, ⟨96, 48, 640, 0⟩, ⟨2, 33, 480, 10⟩⟩ } = [] ∧
    configErrors { vga with res := ⟨0, ⟨96, 0, 640, 16⟩, ⟨2, 33, 480, 10⟩⟩ } = [.badTiming .h .backPorch] ∧
    configErrors { vga with res := ⟨0, ⟨96, 48, 640, 16⟩, ⟨0, 33, 480, 10⟩⟩ } = [.badTiming .v .syncPulse] ∧
    configErrors { vga with res := ⟨0, ⟨96, 48, 636, 16⟩, ⟨2, 33, 480, 10⟩⟩ } = [.strideNotDivisor] := by decide
theorem test_program_checks :
    configErrors (vga.loadProgram (List.replicate 9 0x72C)) = [.programSize] ∧
    configErrors (vga.loadProgram []) = [.programSize] ∧
    configErrors (vga.loadProgram [0x144]) = [.invalidInstruction 0] ∧
    configErrors { tiny [0x72C] with testPattern := true } = [.testPatternTooSmall] ∧
    configErrors { vga with still := true, img := .black 307199 } = [.imageSize] ∧
    configErrors { vga with g := 8 } = [.badParameter .g] := by decide
/-- 95 §2.1: rows (783, 514), (784, 514) and (144, 35). -/
theorem test_timing_signals :
    (fun s : State => (s.active, s.xPos, s.yPos, s.newLine, s.newFrame))
      { State.resetWith vga [] with scanCounter := 783, lineCounter := 514 } = (true, 639, 479, false, false) ∧
    (fun s : State => (s.active, s.xPos, s.yPos, s.newLine, s.newFrame))
      { State.resetWith vga [] with scanCounter := 784, lineCounter := 514 } = (false, 640, 479, false, false) ∧
    (fun s : State => (s.active, s.xPos, s.yPos, s.newLine, s.newFrame))
      { State.resetWith vga [] with scanCounter := 144, lineCounter := 35 } = (true, 0, 0, true, true) := by decide

/-! ### Witnesses: states and operands that meet the hypotheses of the statements -/

/-- Whether a run does not stop. -/
def goesOn (o : Host.Outcome State Fault Refusal) : Bool :=
  match o with
  | .next _ => true
  | .fault _ => false
  | .refused _ => false

/-- The last state of a run of `k` steps from reset. -/
def endOf (c : Config) (is : List TickInput) (k : Nat) : State :=
  match Host.Core.run Sys2Proof.core k (State.resetWith c is) with
  | .next t => t
  | .fault _ => State.resetWith c is
  | .refused _ => State.resetWith c is

theorem run_endOf {c : Config} {is : List TickInput} {k : Nat}
    (h : goesOn (Host.Core.run Sys2Proof.core k (State.resetWith c is)) = true) : Run c is k (endOf c is k) := by
  refine reaches_of_run ?_
  unfold endOf
  cases hr : Host.Core.run Sys2Proof.core k (State.resetWith c is) with
  | next t => rfl
  | fault r => rw [hr] at h; cases h
  | refused r => rw [hr] at h; cases h

/-- Instructions that exist, at the boundaries of the register counts: the hypotheses of the encoding statements. -/
theorem witness_wf :
    (Instr.sub (.gp 3) .imm (.gp 3) 0xFFFFFFFF).wf ⟨4, 32, false⟩ = true ∧
    (Instr.lte (.gp 6) .imm (.gp 6) 1).wf ⟨7, 32, true⟩ = true ∧
    decodeWord .canonical 0xB2C = .ok (.sub .xpos .ypos .output 0) := by decide

/-- A preset's configuration, whose fields the timing check accepts. -/
theorem witness_preset : vga.res ∈ presets := by decide

/-- Each clause of the operand statement: registers 0 and 3 exist, and both coordinates are below `2^32`. -/
theorem witness_operands : (bench false 0 1 0 2 3).lanes[0]?.map (fun ln => (ln.gp[0]?, ln.gp[3]?, ln.xCoord)) =
    some (some 2, some 0, 0) ∧ (bench false 0 (2 ^ 32 - 1) (2 ^ 32 - 1) 2 3).yCoord < 2 ^ 32 ∧
    (bench false 0 (2 ^ 32 - 1) (2 ^ 32 - 1) 2 3).frameCounter < 2 ^ (tiny [0x72C]).regWidth := by decide

/-- Selectors that are not the immediate, and operands below `2^31` in every lane of a state. -/
theorem witness_small_operands : Sel.xpos ≠ .imm ∧ Sel.gp 0 ≠ .imm ∧
    ∀ ln ∈ (bench true 5 0 0 0x7FFFFFFF 1).lanes,
      ((bench true 5 0 0 0x7FFFFFFF 1).operand (.gp 0) 0 ln).toNat < 2 ^ ((tiny [0x72C]).regWidth - 1) ∧
      ((bench true 5 0 0 0x7FFFFFFF 1).operand .xpos 0 ln).toNat < 2 ^ ((tiny [0x72C]).regWidth - 1) := by decide

/-- The narrower variant decodes a word and steps. -/
theorem witness_narrower : decodeWord ⟨4, 32, false⟩ 0x72C = .ok (.xor .xpos .ypos .output 0) ∧
    goesOn (step (State.resetWith { tiny [0x72C] with extCmp := false } [])) = true := by decide

/-- Operands of the pseudo-instructions: the literals at both ends of the range, 0 and another value, and a register. -/
theorem witness_pseudo : (AsmOperand.literal (-(2 ^ 31))).assemble 32 = .ok (.imm, some 0x80000000) ∧
    (AsmOperand.literal (2 ^ 32 - 1)).assemble 32 = .ok (.imm, some 0xFFFFFFFF) ∧
    (AsmOperand.literal 0).assemble 32 = .ok (.imm, some 0) ∧ (AsmOperand.gp 3).assemble 32 = .ok (.gp 3, none) ∧
    Format.canonical.w = (State.resetWith vga []).cfg.regWidth ∧ (Sel.gp 3).wf 4 = true ∧ (Dest.gp 3).wf 4 = true := by
  decide

/-- A state whose registers have `W` bits, at the largest value. -/
theorem witness_self_write : ∀ ln ∈ (bench true 5 0 0 0xFFFFFFFF 1).lanes,
    ln.readGp 0 < 2 ^ (bench true 5 0 0 0xFFFFFFFF 1).cfg.regWidth := by decide

/-- A configuration that fails a check, and one that fails none. -/
theorem witness_checks : configErrors Config.canonical ≠ [] ∧ configErrors vga = [] ∧ 4 ≤ vga.g ∧ vga.g ≤ 7 := by decide

/-- A step that runs the decoded instruction, and one without a Pixel Processor. -/
theorem witness_step : configErrors (tiny [0x72C]) = [] ∧ (State.resetWith (tiny [0x72C]) []).rst = false ∧
    (tiny [0x72C]).prog[0]? = some 0x72C ∧
    decodeWord (tiny [0x72C]).format 0x72C = .ok (.xor .xpos .ypos .output 0) ∧
    (tiny [0x72C]).pixelProcessor = true ∧ configErrors noProcessor = [] ∧ noProcessor.pixelProcessor = false := by decide

/-- Configurations that may run. -/
theorem witness_valid : ValidConfig micro ∧ ValidConfig grid ∧ ValidConfig vga ∧ ValidConfig (tiny [0x834, 0x1FFE338]) ∧
    ValidConfig (narrow [0x72C]) ∧ ValidConfig noProcessor := by
  decide

/-- A state in range that is not the reset state, with no reset to come, which steps. -/
theorem witness_in_range : State.InRange (at' (tiny [0x72C]) 4 2 0 [⟨false, .request true⟩]) := by
  constructor <;> decide
theorem witness_in_range_steps : NoReset (at' (tiny [0x72C]) 4 2 0 [⟨false, .request true⟩]).inputs ∧
    (at' (tiny [0x72C]) 4 2 0 [⟨false, .request true⟩]).newFrame = true ∧
    goesOn (step (at' (tiny [0x72C]) 4 2 0 [⟨false, .request true⟩])) = true := by decide

/-- A reset edge in the middle of a frame. -/
theorem witness_reset_edge : configErrors (at' (tiny [0x72C]) 4 2 0 [⟨true, .request true⟩]).cfg = [] ∧
    (at' (tiny [0x72C]) 4 2 0 [⟨true, .request true⟩]).rst = true := by decide

/-- Each clause of the counter step: the end of the frame, the end of a line, and inside a line. -/
theorem witness_counters : (at' (tiny [0x72C]) 12 5 0 []).Ticks ∧ (at' (tiny [0x72C]) 12 4 0 []).Ticks ∧
    (at' (tiny [0x72C]) 11 5 0 []).Ticks ∧ (tiny [0x72C]).res.h.fullscan - 1 = 12 ∧ (tiny [0x72C]).res.v.fullscan - 1 = 5 := by
  decide

/-- Each clause of the program counter step: `new_frame`; an advance inside the window; no advance before the last
instruction; no advance at it; outside the window. -/
theorem witness_program_counter :
    (fun s : State => decide s.PpTicks && s.newFrame) (at' (tiny [0x834, 0x1FFE338]) 4 2 1 []) = true ∧
    (fun s : State => decide s.PpTicks && !s.newFrame && s.active && s.effAdv) (at' (tiny [0x834, 0x1FFE338]) 8 2 1 []) = true ∧
    (fun s : State => decide s.PpTicks && !s.newFrame && s.active && !s.effAdv && s.pc != s.cfg.p - 1)
      (at' (tiny [0x834, 0x1FFE338]) 5 2 0 []) = true ∧
    (fun s : State => decide s.PpTicks && !s.newFrame && s.active && !s.effAdv && s.pc == s.cfg.p - 1)
      (at' (tiny [0x834, 0x1FFE338]) 5 2 1 []) = true ∧
    (fun s : State => decide s.PpTicks && !s.newFrame && !s.active) (at' (tiny [0x834, 0x1FFE338]) 3 2 1 []) = true := by
  decide

/-- Each clause of the coordinate steps: a new line with an advance, an advance inside a line at its end and before it,
and no advance. -/
theorem witness_coordinates :
    (fun s : State => decide s.PpTicks && !s.newFrame && s.newLine && s.effAdv && s.endOfLine) (at' (tiny [0x72C]) 4 3 0 []) = true ∧
    (fun s : State => decide s.PpTicks && !s.newFrame && !s.newLine && s.effAdv && s.endOfLine) (at' (tiny [0x72C]) 8 2 0 []) = true ∧
    (fun s : State => decide s.PpTicks && !s.newFrame && s.effAdv && !s.endOfLine)
      { at' (tiny [0x72C]) 8 2 0 [] with lanes := List.replicate 4 ⟨3, [0, 0, 0, 0], 0⟩ } = true ∧
    (fun s : State => decide s.PpTicks && !s.newFrame && !s.effAdv) (at' (tiny [0x72C]) 4 3 0 [⟨false, .request false⟩]) = true := by
  decide

/-- The consumer's two forms of request. -/
theorem witness_requests : (at' (tiny [0x72C]) 4 3 0 []).input.adv = .reference ∧
    (at' (tiny [0x72C]) 4 3 0 [⟨false, .request false⟩]).input.adv = .request false := by decide

/-- The frame-boundary clear applies, and does not. -/
theorem witness_frame_clear :
    (fun s : State => decide s.PpTicks && s.newFrame && s.cfg.gpFrameReset && s.fetch == some (.add (.gp 0) .imm (.gp 0) 1))
      (at' { tiny [0x2838] with gpFrameReset := true } 4 2 0 []) = true ∧
    (fun s : State => decide s.PpTicks && !s.newFrame && s.cfg.gpFrameReset && s.fetch == some (.add (.gp 0) .imm (.gp 0) 1))
      (at' { tiny [0x2838] with gpFrameReset := true } 5 2 0 []) = true := by decide

/-- Two states that differ in lane 0 only and agree in lane 3; and states that differ from a first one in the Pixel
Processor and in whether it is there, in both generators and in whether they are there, and in one generator. -/
theorem witness_independence : (at' (tiny [0x72C]) 5 2 0 []).Ticks ∧
    ({ at' (tiny [0x72C]) 5 2 0 [] with lanes := (at' (tiny [0x72C]) 5 2 0 []).lanes.set 0 ⟨0, [9], 9⟩ } : State).lanes[3]? =
      (at' (tiny [0x72C]) 5 2 0 []).lanes[3]? ∧
    ({ at' (tiny [0x72C]) 5 2 0 [] with
      cfg := { tiny [0x104] with pixelProcessor := false, n := 2 }, yCoord := 2 } : State).Ticks ∧
    ({ at' (tiny [0x72C]) 5 2 0 [] with cfg := { tiny [0x72C] with still := false, img := .black 1 }, sx := 1 } : State).Ticks ∧
    (State.resetWith grid []).Ticks ∧
    ({ State.resetWith grid [] with cfg := { grid with testPattern := false }, pixCount := 7 } : State).Ticks := by decide

/-- Each clause of the Test Pattern step: outside the window, the end of a cell and inside one, the end of the last line
of a cell and of another line. (The cells of `grid` are one pixel by one line; `wide` has cells of two by two.) -/
def wide : Config := { grid with res := ⟨0, ⟨1, 1, 32, 0⟩, ⟨1, 1, 16, 0⟩⟩ }
theorem witness_test_pattern :
    (fun s : State => decide s.Ticks && s.cfg.testPattern && !s.active && s.vActive) { State.resetWith wide [] with
      scanCounter := 1, lineCounter := 2 } = true ∧
    (fun s : State => decide s.Ticks && s.active && s.pixCount == s.cfg.cellWidth - 1 && s.xPos == s.cfg.width - 1 &&
      s.lineCount == s.cfg.cellHeight - 1) { State.resetWith wide [] with
        scanCounter := 33, lineCounter := 3, pixCount := 1, lineCount := 1 } = true ∧
    (fun s : State => decide s.Ticks && s.active && s.pixCount != s.cfg.cellWidth - 1 && s.xPos == s.cfg.width - 1 &&
      s.lineCount != s.cfg.cellHeight - 1) { State.resetWith wide [] with scanCounter := 33, lineCounter := 2 } = true ∧
    (fun s : State => decide s.Ticks && !s.vActive) { State.resetWith wide [] with scanCounter := 33, lineCounter := 1 } =
      true := by decide
theorem witness_gate : (State.resetWith grid []).cellColCount < 2 ^ grid.colorDepth ∧ canonicalPattern[(7#3).toNat]? = some 7 ∧
    (State.active { State.resetWith grid [] with scanCounter := 2, lineCounter := 2 }) = true := by decide

/-- Each clause of the Still step: the start of the frame, of another line, inside a line, outside the window, and an
index past the table, which no run reaches. -/
theorem witness_still :
    (fun s : State => decide s.Ticks && s.cfg.still && s.newFrame && s.active) (at' (tiny [0x72C]) 4 2 0 []) = true ∧
    (fun s : State => decide s.Ticks && s.newLine && !s.newFrame) (at' (tiny [0x72C]) 4 3 0 []) = true ∧
    (fun s : State => decide s.Ticks && s.active && !s.newLine && !s.newFrame) (at' (tiny [0x72C]) 11 4 0 []) = true ∧
    (fun s : State => decide s.Ticks && !s.active) (at' (tiny [0x72C]) 12 4 0 []) = true ∧
    (fun s : State => s.active && decide (s.cfg.width * s.cfg.height ≤ s.ey * s.cfg.width + s.ex))
      { at' (tiny [0x72C]) 5 2 0 [] with sx := 24 } = true := by decide

/-- A run from reset to an active tick that is neither an advance nor a `new_frame` tick. -/
theorem witness_run : Run micro [] 11 (endOf micro [] 11) ∧ (endOf micro [] 11).active = true ∧
    (endOf micro [] 11).newFrame = false ∧ (endOf micro [] 11).adv = false ∧ micro.still = true :=
  ⟨run_endOf (by decide), by decide, by decide, by decide, rfl⟩

/-- A run from reset to the first active tick, with a Test Pattern generator. -/
theorem witness_run_grid : Run grid [] 38 (endOf grid [] 38) ∧ (endOf grid [] 38).active = true ∧ grid.testPattern = true :=
  ⟨run_endOf (by decide), by decide, rfl⟩

end Sys2Proof.Tests
end

