-- ==== Sys2Proof/Proofs/Channels.lean ====
section
/-! PROOFS. The places of the colour channels (00_scope.md R16, 46_pixel_sources.md R344): a packed value is three slices of
`C` bits, and a channel order says which channel stands in which slice. -/

namespace Sys2Proof

section slices
variable (c x y z : Nat) (v : Rgb)

/-- A slice is a digit of the packed value in base `2^C`. -/
theorem channelAt_eq_div_mod (slot : Nat) : channelAt c slot v = v / (2 ^ c) ^ slot % 2 ^ c := by
  rw [channelAt, bitField, Nat.pow_mul]

/-- The canonical order stacks its arguments from the least significant slice upward. -/
theorem RgbOrder.place_rgb : RgbOrder.rgb.place c x y z = x + 2 ^ c * (y + 2 ^ c * z) := by
  simp only [RgbOrder.place, RgbOrder.redSlot, RgbOrder.greenSlot, RgbOrder.blueSlot, Nat.pow_mul]
  ring

/-- Stacking the three slices of a packed value gives it back. -/
theorem RgbOrder.place_rgb_channelAt (hv : v < 2 ^ (3 * c)) :
    RgbOrder.rgb.place c (channelAt c 0 v) (channelAt c 1 v) (channelAt c 2 v) = v := by
  have htop : v / 2 ^ c / 2 ^ c < 2 ^ c := by
    rw [Nat.div_div_eq_div_mul]
    exact Nat.div_lt_of_lt_mul (by rwa [← Nat.pow_add, ← Nat.pow_add, show c + c + c = 3 * c by omega])
  rw [RgbOrder.place_rgb]
  simp only [channelAt_eq_div_mod, pow_zero, pow_one, pow_two, Nat.div_one]
  rw [← Nat.div_div_eq_div_mul, Nat.mod_eq_of_lt htop, Nat.mod_add_div, Nat.mod_add_div]

variable {x y z} (hx : x < 2 ^ c) (hy : y < 2 ^ c) (hz : z < 2 ^ c)
include hx

/-- A value below `2^C` in front of a stack is its lowest slice, and the others are the stack. -/
theorem stack_mod_div (n : Nat) : (x + 2 ^ c * n) % 2 ^ c = x ∧ (x + 2 ^ c * n) / 2 ^ c = n := by
  constructor
  · rw [Nat.add_mul_mod_self_left, Nat.mod_eq_of_lt hx]
  · rw [Nat.add_mul_div_left _ _ (Nat.two_pow_pos c), Nat.div_eq_of_lt hx, Nat.zero_add]

theorem stack_lt {n m : Nat} (hn : n < 2 ^ m) : x + 2 ^ c * n < 2 ^ (c + m) := by
  calc x + 2 ^ c * n < 2 ^ c * (n + 1) := by rw [Nat.mul_add_one]; omega
    _ ≤ 2 ^ c * 2 ^ m := Nat.mul_le_mul_left _ hn
    _ = 2 ^ (c + m) := (Nat.pow_add ..).symm

include hy hz

theorem RgbOrder.place_rgb_lt : RgbOrder.rgb.place c x y z < 2 ^ (3 * c) := by
  rw [RgbOrder.place_rgb, show 3 * c = c + (c + c) by omega]
  exact stack_lt c hx (stack_lt c hy hz)

/-- The slices of a stack are what was stacked. -/
theorem channelAt_place_rgb :
    channelAt c 0 (RgbOrder.rgb.place c x y z) = x ∧ channelAt c 1 (RgbOrder.rgb.place c x y z) = y ∧
      channelAt c 2 (RgbOrder.rgb.place c x y z) = z := by
  obtain ⟨hmod, hdiv⟩ := stack_mod_div c hx (y + 2 ^ c * z)
  obtain ⟨hmod', hdiv'⟩ := stack_mod_div c hy z
  simp only [RgbOrder.place_rgb, channelAt_eq_div_mod, pow_zero, pow_one, pow_two, Nat.div_one]
  exact ⟨hmod, by rw [hdiv, hmod'], by rw [← Nat.div_div_eq_div_mul, hdiv, hdiv', Nat.mod_eq_of_lt hz]⟩

end slices

/-- What a channel order puts in slice `slot`, given the three channels. -/
def RgbOrder.inSlot (o : RgbOrder) (r g b slot : Nat) : Nat :=
  if slot = o.redSlot then r else if slot = o.greenSlot then g else b

section orders
variable (o : RgbOrder) (c r g b : Nat)

/-- Every order is the canonical one with the channels exchanged. -/
theorem RgbOrder.place_eq_place_rgb :
    o.place c r g b = RgbOrder.rgb.place c (o.inSlot r g b 0) (o.inSlot r g b 1) (o.inSlot r g b 2) := by
  cases o <;>
    simp [RgbOrder.place, RgbOrder.inSlot, RgbOrder.redSlot, RgbOrder.greenSlot, RgbOrder.blueSlot, Nat.add_comm,
      Nat.add_left_comm, Nat.add_assoc]

/-- The three channels stand in three different slices. -/
theorem RgbOrder.slots_ne : o.greenSlot ≠ o.redSlot ∧ o.blueSlot ≠ o.redSlot ∧ o.blueSlot ≠ o.greenSlot := by
  cases o <;> decide

theorem RgbOrder.slots_lt : o.redSlot < 3 ∧ o.greenSlot < 3 ∧ o.blueSlot < 3 := by
  cases o <;> decide

@[simp] theorem RgbOrder.inSlot_redSlot : o.inSlot r g b o.redSlot = r := if_pos rfl

@[simp] theorem RgbOrder.inSlot_greenSlot : o.inSlot r g b o.greenSlot = g := by
  simp [RgbOrder.inSlot, o.slots_ne]

@[simp] theorem RgbOrder.inSlot_blueSlot : o.inSlot r g b o.blueSlot = b := by
  simp [RgbOrder.inSlot, o.slots_ne]

/-- A slice of a packed value holds the channel that the order puts there. -/
theorem RgbOrder.inSlot_channels (v : Rgb) {slot : Nat} (h : slot < 3) :
    o.inSlot (o.red c v) (o.green c v) (o.blue c v) slot = channelAt c slot v := by
  have hslot : slot = o.redSlot ∨ slot = o.greenSlot ∨ slot = o.blueSlot := by
    obtain ⟨hgr, hbr, hbg⟩ := o.slots_ne
    obtain ⟨hr, hg, hb⟩ := o.slots_lt
    omega
  rcases hslot with rfl | rfl | rfl
  · exact o.inSlot_redSlot ..
  · exact o.inSlot_greenSlot ..
  · exact o.inSlot_blueSlot ..

/-- R344: every packed value is placed from its own channels. -/
theorem RgbOrder.place_channels (v : Rgb) (hv : v < 2 ^ (3 * c)) :
    o.place c (o.red c v) (o.green c v) (o.blue c v) = v := by
  rw [o.place_eq_place_rgb]
  simp only [o.inSlot_channels c v, Nat.reduceLT]
  exact RgbOrder.place_rgb_channelAt c v hv

variable {r g b} (hr : r < 2 ^ c) (hg : g < 2 ^ c) (hb : b < 2 ^ c)
include hr hg hb

theorem RgbOrder.inSlot_lt (slot : Nat) : o.inSlot r g b slot < 2 ^ c := by
  unfold RgbOrder.inSlot
  split
  · exact hr
  · split
    · exact hg
    · exact hb

theorem RgbOrder.place_lt : o.place c r g b < 2 ^ (3 * c) := by
  have h := o.inSlot_lt c hr hg hb
  rw [o.place_eq_place_rgb]
  exact RgbOrder.place_rgb_lt c (h 0) (h 1) (h 2)

/-- A slice of a placed value is what the order puts there: no channel reaches into another's slice. -/
theorem RgbOrder.channelAt_place {slot : Nat} (hs : slot < 3) :
    channelAt c slot (o.place c r g b) = o.inSlot r g b slot := by
  have h := o.inSlot_lt c hr hg hb
  obtain ⟨h0, h1, h2⟩ := channelAt_place_rgb c (h 0) (h 1) (h 2)
  rw [o.place_eq_place_rgb]
  match slot, hs with
  | 0, _ => exact h0
  | 1, _ => exact h1
  | 2, _ => exact h2

theorem RgbOrder.red_place : o.red c (o.place c r g b) = r := by
  obtain ⟨h, -, -⟩ := o.slots_lt
  rw [RgbOrder.red, o.channelAt_place c hr hg hb h, o.inSlot_redSlot]

theorem RgbOrder.green_place : o.green c (o.place c r g b) = g := by
  obtain ⟨-, h, -⟩ := o.slots_lt
  rw [RgbOrder.green, o.channelAt_place c hr hg hb h, o.inSlot_greenSlot]

theorem RgbOrder.blue_place : o.blue c (o.place c r g b) = b := by
  obtain ⟨-, -, h⟩ := o.slots_lt
  rw [RgbOrder.blue, o.channelAt_place c hr hg hb h, o.inSlot_blueSlot]

end orders

/-- Settles O23: every order is the canonical one with its channels exchanged, and the canonical one stacks digits in base
`2^C`. -/
theorem channelsAreDisjoint : Obligations.ChannelsAreDisjoint := by
  unfold Obligations.ChannelsAreDisjoint
  intro o c
  exact ⟨fun r g b hr hg hb =>
      ⟨o.place_lt c hr hg hb, o.red_place c hr hg hb, o.green_place c hr hg hb, o.blue_place c hr hg hb⟩,
    o.place_channels c⟩

end Sys2Proof
end

/-! PROOFS. The ranges of the registers (10_state.md R30 to R43): what the passing checks of a configuration give, the
range of each register's next value, and from these that an instruction, the clock edge, a reset edge and so every step
keep `State.InRange`. -/

namespace Sys2Proof

/-! ### What the passing checks give -/

/-- No check fails exactly if none of each group does (R384). -/
theorem configErrors_eq_nil {c : Config} : configErrors c = [] ↔
    timingErrors .h c.res.h = [] ∧ timingErrors .v c.res.v = [] ∧ parameterErrors c = [] ∧ programErrors c = [] ∧
      strideErrors c = [] ∧ testPatternErrors c = [] ∧ imageErrors c = [] := by
  simp only [configErrors, List.append_eq_nil_iff, and_assoc]

theorem timingErrors_eq_nil {a : Axis} {t : ScanTimings} :
    timingErrors a t = [] ↔ 0 < t.syncPulse ∧ 0 < t.backPorch ∧ 0 < t.visible := by
  simp [timingErrors, Nat.pos_iff_ne_zero]

theorem strideErrors_eq_nil {c : Config} : strideErrors c = [] ↔ c.width % c.n = 0 := by
  simp [strideErrors]

theorem testPatternErrors_eq_nil {c : Config} : testPatternErrors c = [] ↔
    (c.testPattern = true → 1 ≤ c.cellWidth ∧ 1 ≤ c.cellHeight) := by
  cases h : c.testPattern <;> simp [testPatternErrors, h, Nat.one_le_iff_ne_zero]

theorem ScanTimings.lt_fullscan_of_lt_visible {t : ScanTimings} {k : Nat} (h : k < t.visible) : k < t.fullscan := by
  unfold ScanTimings.fullscan
  omega

section checked
variable {c : Config} (h : configErrors c = [])
include h

theorem Config.width_pos : 0 < c.width := by
  obtain ⟨hh, -⟩ := configErrors_eq_nil.mp h
  exact (timingErrors_eq_nil.mp hh).2.2

theorem Config.height_pos : 0 < c.height := by
  obtain ⟨-, hv, -⟩ := configErrors_eq_nil.mp h
  exact (timingErrors_eq_nil.mp hv).2.2

/-- The lanes fit on a line: `N` divides `width` (R388). -/
theorem Config.n_le_width : c.n ≤ c.width := by
  obtain ⟨-, -, -, -, hs, -⟩ := configErrors_eq_nil.mp h
  exact Nat.le_of_dvd (Config.width_pos h) (Nat.dvd_of_mod_eq_zero (strideErrors_eq_nil.mp hs))

/-- The program is not empty (R387). -/
theorem Config.p_pos : 0 < c.p := by
  obtain ⟨-, -, -, hp, -⟩ := configErrors_eq_nil.mp h
  simp only [programErrors, List.append_eq_nil_iff, ite_eq_left_iff, List.cons_ne_nil, imp_false, not_not] at hp
  obtain ⟨hsize, -⟩ := hp
  simp only [Config.programSizeOk, Bool.and_eq_true, decide_eq_true_eq] at hsize
  exact hsize.1.1.1

theorem Config.cell_pos (htp : c.testPattern = true) : 0 < c.cellWidth ∧ 0 < c.cellHeight := by
  obtain ⟨-, -, -, -, -, ht, -⟩ := configErrors_eq_nil.mp h
  exact testPatternErrors_eq_nil.mp ht htp

end checked

namespace Machine

/-! ### The signals, as facts about the counters -/

theorem State.hActive_iff {s : State} : s.hActive = true ↔
    s.cfg.res.h.prescan ≤ s.scanCounter ∧ s.scanCounter < s.cfg.res.h.prescan + s.cfg.width := by
  simp [State.hActive]

theorem State.active_iff {s : State} : s.active = true ↔ s.hActive = true ∧ s.vActive = true := by
  simp [State.active]

theorem State.newLine_iff {s : State} :
    s.newLine = true ↔ s.scanCounter = s.cfg.res.h.prescan ∧ s.vActive = true := by
  simp [State.newLine]

/-! ### The next value of each register -/

/-- A counter that returns to 0 at its last value stays below its length. -/
theorem wrap_lt {k m : Nat} (h : k < m) : (if k == m - 1 then 0 else k + 1) < m := by
  split
  · omega
  · next hk =>
    have hk : k ≠ m - 1 := by simpa using hk
    omega

section next
variable {s : State}

theorem State.nextScan_lt (h : s.scanCounter < s.cfg.res.h.fullscan) : s.nextScan < s.cfg.res.h.fullscan := wrap_lt h

theorem State.nextLine_lt (h : s.lineCounter < s.cfg.res.v.fullscan) : s.nextLine < s.cfg.res.v.fullscan := by
  unfold State.nextLine
  split
  · exact wrap_lt h
  · exact h

/-- The program counter stops at the last instruction (R307). -/
theorem State.nextPc_lt (h : s.pc < s.cfg.p) : s.nextPc < s.cfg.p := by
  unfold State.nextPc
  have hp : 0 < s.cfg.p := Nat.zero_lt_of_lt h
  split_ifs with _ _ _ hr
  · exact hp
  · exact hp
  · have hr : s.pc + 1 ≠ s.cfg.p := by simpa [State.resultReady] using hr
    omega
  · exact h
  · exact h

/-- Lane `l`'s coordinate is its own number, a remainder by `width`, or unchanged (R308). -/
theorem State.nextX_lt {l x : Nat} (hl : l < s.cfg.width) (hx : x < s.cfg.width) : s.nextX l x < s.cfg.width := by
  unfold State.nextX
  split_ifs
  · exact hl
  · exact Nat.mod_lt _ (Nat.zero_lt_of_lt hx)
  · exact hx

theorem State.nextY_lt (h : s.yCoord < s.cfg.height) : s.nextY < s.cfg.height := by
  unfold State.nextY
  split_ifs
  · exact Nat.zero_lt_of_lt h
  · exact Nat.mod_lt _ (Nat.zero_lt_of_lt h)
  · exact h

theorem State.nextFrame_lt (h : s.frameCounter < 2 ^ s.cfg.frameWidth) : s.nextFrame < 2 ^ s.cfg.frameWidth := by
  unfold State.nextFrame
  split
  · exact Nat.mod_lt _ (Nat.two_pow_pos _)
  · exact h

theorem State.nextPixCount_lt (h : s.pixCount < s.cfg.cellWidth) : s.nextPixCount < s.cfg.cellWidth := by
  unfold State.nextPixCount
  split
  · exact Nat.zero_lt_of_lt h
  · exact wrap_lt h

theorem State.nextLineCount_lt (h : s.lineCount < s.cfg.cellHeight) : s.nextLineCount < s.cfg.cellHeight := by
  unfold State.nextLineCount
  split
  · exact Nat.zero_lt_of_lt h
  · split
    · exact wrap_lt h
    · exact h

theorem State.nextCellCol_lt (h : s.cellColCount < 2 ^ s.cfg.colorDepth) : s.nextCellCol < 2 ^ s.cfg.colorDepth := by
  unfold State.nextCellCol
  split_ifs
  · exact Nat.two_pow_pos _
  · exact Nat.mod_lt _ (Nat.two_pow_pos _)
  · exact h

theorem State.ey_lt (h : s.sy < s.cfg.height) : s.ey < s.cfg.height := by
  unfold State.ey
  split_ifs
  · exact Nat.zero_lt_of_lt h
  · exact Nat.mod_lt _ (Nat.zero_lt_of_lt h)
  · exact h

theorem State.nextSy_lt (h : s.sy < s.cfg.height) : s.nextSy < s.cfg.height := by
  unfold State.nextSy
  split
  · exact State.ey_lt h
  · exact h

end next

/-! ### The Still generator and the raster -/

section still
variable {s : State} (h : s.StillInStep) (hst : s.cfg.still = true)
include h hst

/-- In step, the column read is the column shown: the line pulse gives column 0, and `sx` the columns after it (R348). -/
theorem State.ex_of_active (ha : s.active = true) : s.ex = s.scanCounter - s.cfg.res.h.prescan := by
  obtain ⟨hh, hv⟩ := State.active_iff.mp ha
  obtain ⟨hlo, hhi⟩ := State.hActive_iff.mp hh
  unfold State.ex
  split
  · next hn =>
    obtain ⟨hp, -⟩ := State.newLine_iff.mp hn
    omega
  · next hn =>
    have hne : s.scanCounter ≠ s.cfg.res.h.prescan := fun hp => hn (State.newLine_iff.mpr ⟨hp, hv⟩)
    rw [h hst hv (by omega)]
    omega

theorem State.nextSx_le (hsx : s.sx ≤ s.cfg.width) : s.nextSx ≤ s.cfg.width := by
  unfold State.nextSx
  split
  · next ha =>
    obtain ⟨hlo, hhi⟩ := State.hActive_iff.mp (State.active_iff.mp ha).1
    rw [State.ex_of_active h hst ha]
    omega
  · exact hsx

/-- Past the first pixel of a visible line, inside the window `sx` counts one pixel more, and after it `sx` stands at
`width` (R350, R351). -/
theorem State.nextSx_eq (hw : 0 < s.cfg.width) (hv : s.vActive = true) (hp : s.cfg.res.h.prescan ≤ s.scanCounter) :
    s.nextSx = min (s.scanCounter + 1 - s.cfg.res.h.prescan) s.cfg.width := by
  by_cases hhi : s.scanCounter < s.cfg.res.h.prescan + s.cfg.width
  · have ha : s.active = true := State.active_iff.mpr ⟨State.hActive_iff.mpr ⟨hp, hhi⟩, hv⟩
    rw [State.nextSx, if_pos ha, State.ex_of_active h hst ha]
    omega
  · have ha : ¬ s.active = true := fun ha => hhi (State.hActive_iff.mp (State.active_iff.mp ha).1).2
    rw [State.nextSx, if_neg ha, h hst hv (by omega)]
    omega

end still

/-- Where the next `scan_counter` is not 0 the line goes on. -/
theorem State.next_of_nextScan_pos {s : State} (h : 0 < s.nextScan) :
    s.nextScan = s.scanCounter + 1 ∧ s.nextLine = s.lineCounter := by
  cases hw : s.scanWraps with
  | true => simp [State.nextScan, hw] at h
  | false => simp [State.nextScan, State.nextLine, hw]

/-- `v_active` is a function of the configuration and the line alone. -/
theorem State.vActive_congr {s t : State} (hcfg : t.cfg = s.cfg) (hline : t.lineCounter = s.lineCounter) :
    t.vActive = s.vActive := by
  simp only [State.vActive, hcfg, hline]

/-- The clock edge keeps the Still generator in step with the raster. -/
theorem State.clockEdge_stillInStep {s c : State} (hcfg : c.cfg = s.cfg) (hw : 0 < s.cfg.width) (h : s.StillInStep) :
    (s.clockEdge c).StillInStep := by
  intro hst hv hp
  simp only [State.clockEdge_cfg, State.clockEdge_scanCounter, hcfg] at hst hp
  obtain ⟨hscan, hline⟩ := State.next_of_nextScan_pos (Nat.zero_lt_of_lt hp)
  rw [State.vActive_congr (t := s.clockEdge c) hcfg hline] at hv
  simp only [State.clockEdge_sx, State.clockEdge_scanCounter, State.clockEdge_cfg, hcfg, hst, if_true, hscan]
  exact State.nextSx_eq h hst hw hv (by omega)

/-! ### The parts of a step -/

/-- The clock edge keeps lane `l` in range; a frame-boundary clear leaves 0 in each register (R308, R312). -/
theorem State.stepLane_inRange {s : State} {l : Nat} {ln : Lane} (hl : l < s.cfg.width) (h : ln.InRange s.cfg) :
    (s.stepLane l ln).InRange s.cfg := by
  obtain ⟨hx, hlen, hgp, hout⟩ := h
  refine ⟨State.nextX_lt hl hx, ?_, fun v hv => ?_, hout⟩
  · rw [State.stepLane_gp]
    split <;> simpa using hlen
  · rw [State.stepLane_gp] at hv
    split at hv
    · obtain ⟨_, -, rfl⟩ := List.mem_map.mp hv
      exact Nat.two_pow_pos _
    · exact hgp v hv

/-- One instruction in all lanes keeps every register in range (R197). -/
theorem State.runLanes_inRange {s : State} (h : s.InRange)
    (op : Word s.cfg.regWidth → Word s.cfg.regWidth → Word s.cfg.regWidth) (l r : Sel) (d : Dest) (imm : Nat) :
    (s.runLanes op l r d imm).InRange where
  __ := h
  laneCount := by rw [State.runLanes_length]; exact h.laneCount
  lane := by
    intro ln hln
    obtain ⟨ln₀, hln₀, rfl⟩ := List.mem_map.mp hln
    exact Lane.commit_inRange (h.lane ln₀ hln₀) d _

/-- A register that steps only where its block is instantiated has the bound of its next value (R353). -/
theorem ite_lt_of_lt {b : Bool} {next old m : Nat} (hnext : next < m) (hold : old < m) :
    (if b then next else old) < m := by
  cases b
  · exact hold
  · exact hnext

/-- The clock edge keeps every register in range, where `c` is the snapshot with the lanes' commits made. -/
theorem State.clockEdge_inRange {s c : State} (hok : configErrors s.cfg = []) (hs : s.InRange) (hc : c.InRange)
    (hcfg : c.cfg = s.cfg) : (s.clockEdge c).InRange := by
  have hpc : s.pc < s.cfg.p := by
    have hp := Config.p_pos hok
    have hpc := hs.pc
    omega
  constructor
  case inStep => exact State.clockEdge_stillInStep hcfg (Config.width_pos hok) hs.inStep
  all_goals simp only [State.clockEdge_cfg, hcfg]
  case scan => exact State.nextScan_lt hs.scan
  case line => exact State.nextLine_lt hs.line
  case pc => exact ite_lt_of_lt (lt_max_of_lt_left (State.nextPc_lt hpc)) hs.pc
  case y => exact ite_lt_of_lt (State.nextY_lt hs.y) hs.y
  case frame => exact ite_lt_of_lt (State.nextFrame_lt hs.frame) hs.frame
  case laneCount =>
    rw [← hcfg, ← hc.laneCount, State.clockEdge_lanes]
    split <;> simp
  case lane =>
    intro ln hln
    rw [State.clockEdge_lanes] at hln
    have hlane : ∀ ln ∈ c.lanes, ln.InRange s.cfg := hcfg ▸ hc.lane
    have hcount : c.lanes.length ≤ s.cfg.width := by
      rw [hc.laneCount, hcfg]
      exact Config.n_le_width hok
    split at hln
    · obtain ⟨l, hl, rfl⟩ := List.mem_mapIdx.mp hln
      exact State.stepLane_inRange (hl.trans_le hcount) (hlane _ (List.getElem_mem hl))
    · exact hlane ln hln
  case pix =>
    intro htp
    exact ite_lt_of_lt (State.nextPixCount_lt (hs.pix htp)) (hs.pix htp)
  case lineCount =>
    intro htp
    exact ite_lt_of_lt (State.nextLineCount_lt (hs.lineCount htp)) (hs.lineCount htp)
  case cellCol => exact ite_lt_of_lt (State.nextCellCol_lt hs.cellCol) hs.cellCol
  case sx =>
    rw [State.clockEdge_sx]
    split
    · next hst => exact State.nextSx_le hs.inStep hst hs.sx
    · exact hs.sx
  case sy => exact ite_lt_of_lt (State.nextSy_lt hs.sy) hs.sy
  case image => exact hs.image

theorem Lane.reset_inRange {c : Config} (hw : 0 < c.width) : (Lane.reset c.g).InRange c := by
  refine ⟨hw, List.length_replicate, fun v hv => ?_, Nat.two_pow_pos _⟩
  rw [List.eq_of_mem_replicate hv]
  exact Nat.two_pow_pos _

/-- Right after reset every register is in range, under any configuration that may run (R412). -/
theorem State.resetWith_inRange {c : Config} (h : ValidConfig c) (is : List TickInput) :
    (State.resetWith c is).InRange := by
  obtain ⟨hok, himg⟩ := h
  have hw := Config.width_pos hok
  have hh := Config.height_pos hok
  exact {
    scan := ScanTimings.lt_fullscan_of_lt_visible hw
    line := ScanTimings.lt_fullscan_of_lt_visible hh
    pc := lt_max_of_lt_right Nat.one_pos
    y := hh
    frame := Nat.two_pow_pos _
    laneCount := List.length_replicate
    lane := fun _ hln => List.eq_of_mem_replicate hln ▸ Lane.reset_inRange hw
    pix := fun htp => (Config.cell_pos hok htp).1
    lineCount := fun htp => (Config.cell_pos hok htp).2
    cellCol := Nat.two_pow_pos _
    sx := Nat.zero_le _
    sy := hh
    inStep := fun _ _ hp => absurd hp (Nat.not_lt_zero _)
    image := himg }

/-- Every step keeps every register in range: each of the three things a step can be does. -/
theorem step_inRange {s t : State} (hs : s.InRange) (h : step s = .next t) : t.InRange := by
  obtain ⟨hok, ⟨-, rfl⟩ | ⟨-, -, rfl⟩ | ⟨-, -, i, op, -, -, rfl⟩⟩ := step_next_cases h
  · exact State.resetWith_inRange ⟨hok, hs.image⟩ _
  · exact State.clockEdge_inRange hok hs hs rfl
  · exact State.clockEdge_inRange hok hs (State.runLanes_inRange hs op ..) rfl

end Machine

/-- Settles O35, from what each of the three kinds of step does to each register. -/
theorem everyStepKeepsTheRanges : Obligations.EveryStepKeepsTheRanges := by
  unfold Obligations.EveryStepKeepsTheRanges
  intro s t hs h
  exact Machine.step_inRange hs h

end Sys2Proof

/-! PROOFS. The encoding (30_encoding.md R110 to R124): a word is a stack of five fields, each wide enough for its numbers,
and each field's numbers name what exists one-to-one; so the words that decode to an instruction are its one word. A
stored word is its bytes, the least significant one first. -/

namespace Sys2Proof

/-! ### Field widths -/

theorem le_two_pow_ceilLog2 (n : Nat) : n ≤ 2 ^ ceilLog2 n := by
  have h : n - 1 < 2 ^ ceilLog2 n := Nat.lt_log2_self
  omega

theorem two_pow_ceilLog2_pred_lt {n : Nat} (h : 2 ≤ n) : 2 ^ (ceilLog2 n - 1) < n := by
  have hle : 2 ^ (n - 1).log2 ≤ n - 1 := Nat.log2_self_le (by omega)
  rw [ceilLog2, Nat.add_sub_cancel]
  omega

theorem selWidth_four : selWidth 4 = 3 := by decide

theorem selWidth_of_five_le {g : Nat} (h : 5 ≤ g) (hg : g ≤ 7) : selWidth g = 4 := by
  interval_cases g <;> decide

theorem destWidth_eq_three {g : Nat} (h : 4 ≤ g) (hg : g ≤ 7) : destWidth g = 3 := by
  interval_cases g <;> decide

/-! ### Bit fields -/

theorem bitField_zero (w len : Nat) : bitField w 0 len = w % 2 ^ len := by
  rw [bitField, pow_zero, Nat.div_one]

theorem bitField_add (w a lo len : Nat) : bitField w (a + lo) len = bitField (w / 2 ^ a) lo len := by
  rw [bitField, bitField, Nat.div_div_eq_div_mul, Nat.pow_add]

theorem bitField_lt (w lo len : Nat) : bitField w lo len < 2 ^ len := Nat.mod_lt _ (Nat.two_pow_pos _)

theorem testBit_bitField (w lo len j : Nat) :
    (bitField w lo len).testBit j = (decide (j < len) && w.testBit (lo + j)) := by
  rw [bitField, Nat.testBit_mod_two_pow, Nat.testBit_div_two_pow, Nat.add_comm]

/-! ### The word and its five fields -/

/-- Each field of a record has a value of the field's width. -/
structure Fields.Fit (f : Format) (x : Fields) : Prop where
  left : x.left < 2 ^ selWidth f.g
  right : x.right < 2 ^ selWidth f.g
  dest : x.dest < 2 ^ destWidth f.g
  opcode : x.opcode < 2 ^ opcodeWidth
  immediate : x.immediate < 2 ^ immWidth f

/-- The word of a record stacks its fields from the least significant one upward. -/
theorem joinFields_eq_stack (g : Nat) (x : Fields) : joinFields g x =
    x.left + 2 ^ selWidth g * (x.right + 2 ^ selWidth g *
      (x.dest + 2 ^ destWidth g * (x.opcode + 2 ^ opcodeWidth * x.immediate))) := by
  simp only [joinFields, rightLo, destLo, opcodeLo, immLo, two_mul, Nat.pow_add]
  ring

/-- A word's fields are the digits that taking the fields off one after another gives. -/
theorem splitWord_eq_digits (f : Format) (w : Nat) : splitWord f w =
    { left := w % 2 ^ selWidth f.g
      right := w / 2 ^ selWidth f.g % 2 ^ selWidth f.g
      dest := w / 2 ^ selWidth f.g / 2 ^ selWidth f.g % 2 ^ destWidth f.g
      opcode := w / 2 ^ selWidth f.g / 2 ^ selWidth f.g / 2 ^ destWidth f.g % 2 ^ opcodeWidth
      immediate :=
        w / 2 ^ selWidth f.g / 2 ^ selWidth f.g / 2 ^ destWidth f.g / 2 ^ opcodeWidth % 2 ^ immWidth f } := by
  simp only [splitWord, bitField, rightLo, destLo, opcodeLo, immLo, two_mul, Nat.pow_add, Nat.div_div_eq_div_mul,
    pow_zero, Nat.div_one, Nat.mul_assoc]

theorem ilen_eq_add (f : Format) : ilen f =
    selWidth f.g + (selWidth f.g + (destWidth f.g + (opcodeWidth + immWidth f))) := by
  rw [ilen]
  omega

/-- The layout of a canonical word (R111). -/
theorem splitWord_canonical (e : Bool) (w : Nat) :
    splitWord ⟨4, 32, e⟩ w = ⟨w % 8, w / 8 % 8, w / 64 % 8, w / 512 % 16, w / 8192 % 2 ^ 32⟩ := by
  simp [splitWord, bitField, rightLo, destLo, opcodeLo, immLo, selWidth_four, destWidth_eq_three, opcodeWidth,
    immWidth]

theorem ilen_canonical (e : Bool) : ilen ⟨4, 32, e⟩ = 45 := by
  simp [ilen, selWidth_four, destWidth_eq_three, opcodeWidth, immWidth]

theorem splitWord_fit (f : Format) (w : Nat) : (splitWord f w).Fit f :=
  ⟨bitField_lt .., bitField_lt .., bitField_lt .., bitField_lt .., bitField_lt ..⟩

theorem joinFields_lt {f : Format} {x : Fields} (h : x.Fit f) : joinFields f.g x < 2 ^ ilen f := by
  rw [joinFields_eq_stack, ilen_eq_add]
  exact stack_lt _ h.left (stack_lt _ h.right (stack_lt _ h.dest (stack_lt _ h.opcode h.immediate)))

/-- No field reaches into another's place. -/
theorem splitWord_joinFields {f : Format} {x : Fields} (h : x.Fit f) : splitWord f (joinFields f.g x) = x := by
  rw [joinFields_eq_stack, splitWord_eq_digits]
  simp only [stack_mod_div _ h.left, stack_mod_div _ h.right, stack_mod_div _ h.dest, stack_mod_div _ h.opcode,
    Nat.mod_eq_of_lt h.immediate]

/-- The five fields hold every bit of a word of `ILEN` bits. -/
theorem joinFields_splitWord {f : Format} {w : Nat} (h : w < 2 ^ ilen f) : joinFields f.g (splitWord f w) = w := by
  have htop : w / 2 ^ selWidth f.g / 2 ^ selWidth f.g / 2 ^ destWidth f.g / 2 ^ opcodeWidth < 2 ^ immWidth f := by
    simp only [Nat.div_div_eq_div_mul, ← Nat.pow_add]
    refine Nat.div_lt_of_lt_mul ?_
    rwa [← Nat.pow_add, show _ + immWidth f = ilen f by rw [ilen]; omega]
  rw [joinFields_eq_stack, splitWord_eq_digits]
  simp only [Nat.mod_eq_of_lt htop, Nat.mod_add_div]

/-! ### The numbers of selectors, destinations and opcodes -/

/-- The selector numbers are one-to-one, and name the selectors that exist (R112). -/
theorem decodeSel_eq_some_iff {g v : Nat} {s : Sel} : decodeSel g v = some s ↔ s.wf g = true ∧ v = encodeSel g s := by
  constructor
  · intro h
    unfold decodeSel at h
    split_ifs at h with hgp hx hy hf hi <;> cases h <;> simp_all [Sel.wf, encodeSel]
  · rintro ⟨hwf, rfl⟩
    cases s with
    | gp n => simp_all [Sel.wf, decodeSel, encodeSel, n.isLt]
    | _ => simp [decodeSel, encodeSel]

theorem decodeDest_eq_some_iff {g v : Nat} {d : Dest} :
    decodeDest g v = some d ↔ d.wf g = true ∧ v = encodeDest g d := by
  constructor
  · intro h
    unfold decodeDest at h
    split_ifs at h with hgp ho <;> cases h <;> simp_all [Dest.wf, encodeDest]
  · rintro ⟨hwf, rfl⟩
    cases d with
    | gp n => simp_all [Dest.wf, decodeDest, encodeDest, n.isLt]
    | output => simp [decodeDest, encodeDest]

theorem encodeSel_lt {g : Nat} {s : Sel} (h : s.wf g = true) : encodeSel g s < g + 4 := by
  cases s with
  | gp n =>
    have hn : n.val < g := of_decide_eq_true h
    rw [encodeSel]
    omega
  | _ => simp [encodeSel]

theorem encodeDest_lt {g : Nat} {d : Dest} (h : d.wf g = true) : encodeDest g d < g + 1 := by
  cases d with
  | gp n =>
    have hn : n.val < g := of_decide_eq_true h
    rw [encodeDest]
    omega
  | output => exact Nat.lt_succ_self g

/-- The selector numbers below `G+4` are the ones in use (R112). -/
theorem exists_decodeSel_iff {g : Nat} (hg : g ≤ 7) (v : Nat) : (∃ s, decodeSel g v = some s) ↔ v < g + 4 := by
  constructor
  · rintro ⟨s, hs⟩
    obtain ⟨hwf, rfl⟩ := decodeSel_eq_some_iff.mp hs
    exact encodeSel_lt hwf
  · intro hv
    have hcases : v < g ∨ v = g ∨ v = g + 1 ∨ v = g + 2 ∨ v = g + 3 := by omega
    simp only [decodeSel_eq_some_iff]
    rcases hcases with hlt | rfl | rfl | rfl | rfl
    · exact ⟨.gp ⟨v, by omega⟩, decide_eq_true hlt, rfl⟩
    · exact ⟨.xpos, rfl, rfl⟩
    · exact ⟨.ypos, rfl, rfl⟩
    · exact ⟨.frame, rfl, rfl⟩
    · exact ⟨.imm, rfl, rfl⟩

/-- The destination numbers up to `G` are the ones in use (R113). -/
theorem exists_decodeDest_iff {g : Nat} (hg : g ≤ 7) (v : Nat) : (∃ d, decodeDest g v = some d) ↔ v ≤ g := by
  constructor
  · rintro ⟨d, hd⟩
    obtain ⟨hwf, rfl⟩ := decodeDest_eq_some_iff.mp hd
    exact Nat.le_of_lt_succ (encodeDest_lt hwf)
  · intro hv
    simp only [decodeDest_eq_some_iff]
    rcases Nat.lt_or_eq_of_le hv with hlt | rfl
    · exact ⟨.gp ⟨v, by omega⟩, decide_eq_true hlt, rfl⟩
    · exact ⟨.output, rfl, rfl⟩

/-- Every instruction is named again by its opcode number and its fields (R114). -/
theorem Instr.rebuild (i : Instr) : Laws.Rebuild.Statement i := by
  cases i with
  | not l r d v => exact Laws.Rebuild.not l r d v
  | and l r d v => exact Laws.Rebuild.and l r d v
  | or l r d v => exact Laws.Rebuild.or l r d v
  | xor l r d v => exact Laws.Rebuild.xor l r d v
  | add l r d v => exact Laws.Rebuild.add l r d v
  | sub l r d v => exact Laws.Rebuild.sub l r d v
  | eq l r d v => exact Laws.Rebuild.eq l r d v
  | gt l r d v => exact Laws.Rebuild.gt l r d v
  | gte l r d v => exact Laws.Rebuild.gte l r d v
  | lt l r d v => exact Laws.Rebuild.lt l r d v
  | lte l r d v => exact Laws.Rebuild.lte l r d v

/-- The comparison set has the opcodes from 6 on (R114). -/
theorem Instr.isCompare_eq (i : Instr) : i.isCompare = decide (6 ≤ i.opcode) := by
  cases i <;> rfl

/-- An opcode number with four fields names the one instruction that has them, where its instruction set exists (R114). -/
theorem instrOf_eq_some_iff {e : Bool} {op : Nat} {l r : Sel} {d : Dest} {v : Nat} {i : Instr} :
    instrOf e op l r d v = some i ↔
      (i.opcode = op ∧ i.left = l ∧ i.right = r ∧ i.dest = d ∧ i.immediate = v) ∧ (e || !i.isCompare) = true := by
  constructor
  · intro h
    unfold instrOf at h
    split at h
    case h_1 | h_2 | h_3 | h_4 | h_5 | h_6 =>
      cases h
      exact ⟨⟨rfl, rfl, rfl, rfl, rfl⟩, Bool.or_true e⟩
    case h_7 | h_8 | h_9 | h_10 | h_11 =>
      obtain ⟨he, h⟩ := Option.ite_none_right_eq_some.mp h
      cases h
      exact ⟨⟨rfl, rfl, rfl, rfl, rfl⟩, by rw [he, Bool.true_or]⟩
    case h_12 => cases h
  · rintro ⟨⟨rfl, rfl, rfl, rfl, rfl⟩, hset⟩
    exact i.rebuild.2 e hset

/-- The opcode numbers in use are those up to 10, or up to 5 without `EXT_CMP` (R114). -/
theorem exists_instrOf_iff (e : Bool) (op : Nat) (l r : Sel) (d : Dest) (v : Nat) :
    (∃ i, instrOf e op l r d v = some i) ↔ op ≤ if e then 10 else 5 := by
  constructor
  · rintro ⟨i, hi⟩
    obtain ⟨⟨rfl, -⟩, hset⟩ := instrOf_eq_some_iff.mp hi
    cases e with
    | true => exact i.rebuild.1
    | false =>
      have hlt : i.opcode < 6 := by simpa [Instr.isCompare_eq] using hset
      exact Nat.le_of_lt_succ hlt
  · intro hop
    cases e with
    | true =>
      replace hop : op ≤ 10 := hop
      interval_cases op <;> exact ⟨_, rfl⟩
    | false =>
      replace hop : op ≤ 5 := hop
      interval_cases op <;> exact ⟨_, rfl⟩

/-! ### Decoding and encoding -/

theorem Instr.wf_iff {f : Format} {i : Instr} : i.wf f = true ↔
    i.left.wf f.g = true ∧ i.right.wf f.g = true ∧ i.dest.wf f.g = true ∧ i.immediate < 2 ^ immWidth f ∧
      (f.extCmp || !i.isCompare) = true := by
  simp only [Instr.wf, immWidth, Bool.and_eq_true, decide_eq_true_eq, and_assoc]

/-- A record decodes to an instruction exactly if each of its fields does (R118). -/
theorem decodeFields_eq_ok_iff {f : Format} {x : Fields} {i : Instr} : decodeFields f x = .ok i ↔
    decodeSel f.g x.left = some i.left ∧ decodeSel f.g x.right = some i.right ∧
      decodeDest f.g x.dest = some i.dest ∧
      instrOf f.extCmp x.opcode i.left i.right i.dest x.immediate = some i := by
  constructor
  · intro h
    unfold decodeFields at h
    split at h
    · cases h
    · next l hl =>
      split at h
      · cases h
      · next r hr =>
        split at h
        · cases h
        · next d hd =>
          split at h
          · cases h
          · next j hj =>
            cases h
            obtain ⟨⟨-, rfl, rfl, rfl, -⟩, -⟩ := instrOf_eq_some_iff.mp hj
            exact ⟨hl, hr, hd, hj⟩
  · rintro ⟨hl, hr, hd, hi⟩
    simp only [decodeFields, hl, hr, hd, hi]

theorem exists_decodeFields_iff {f : Format} (hg : f.g ≤ 7) (x : Fields) : (∃ i, decodeFields f x = .ok i) ↔
    x.left < f.g + 4 ∧ x.right < f.g + 4 ∧ x.dest ≤ f.g ∧ x.opcode ≤ if f.extCmp then 10 else 5 := by
  constructor
  · rintro ⟨i, hi⟩
    obtain ⟨hl, hr, hd, hop⟩ := decodeFields_eq_ok_iff.mp hi
    exact ⟨(exists_decodeSel_iff hg _).mp ⟨_, hl⟩, (exists_decodeSel_iff hg _).mp ⟨_, hr⟩,
      (exists_decodeDest_iff hg _).mp ⟨_, hd⟩, (exists_instrOf_iff ..).mp ⟨_, hop⟩⟩
  · rintro ⟨hl, hr, hd, hop⟩
    obtain ⟨l, hl⟩ := (exists_decodeSel_iff hg _).mpr hl
    obtain ⟨r, hr⟩ := (exists_decodeSel_iff hg _).mpr hr
    obtain ⟨d, hd⟩ := (exists_decodeDest_iff hg _).mpr hd
    obtain ⟨i, hi⟩ := (exists_instrOf_iff f.extCmp x.opcode l r d x.immediate).mpr hop
    exact ⟨i, by simp only [decodeFields, hl, hr, hd, hi]⟩

theorem decodeWord_eq_ok_iff {f : Format} {w : Nat} {i : Instr} :
    decodeWord f w = .ok i ↔ w < 2 ^ ilen f ∧ decodeFields f (splitWord f w) = .ok i := by
  unfold decodeWord
  split
  · next h => simp [h]
  · next h => simp [h]

/-- The fields of an instruction that exists fit their widths (R111 to R115). -/
theorem encodeFields_fit {f : Format} {i : Instr} (h : i.wf f = true) : (encodeFields f.g i).Fit f := by
  obtain ⟨hl, hr, hd, himm, -⟩ := Instr.wf_iff.mp h
  exact {
    left := (encodeSel_lt hl).trans_le (le_two_pow_ceilLog2 _)
    right := (encodeSel_lt hr).trans_le (le_two_pow_ceilLog2 _)
    dest := (encodeDest_lt hd).trans_le (le_two_pow_ceilLog2 _)
    opcode := i.rebuild.1.trans_lt (by decide)
    immediate := himm }

theorem encodeWord_lt {f : Format} {i : Instr} (h : i.wf f = true) : encodeWord f.g i < 2 ^ ilen f :=
  joinFields_lt (encodeFields_fit h)

/-- A record whose immediate has `W` bits decodes to an instruction exactly if it is the record of that instruction, which
exists. -/
theorem decodeFields_eq_ok_iff_encodeFields {f : Format} {x : Fields} {i : Instr}
    (himm : x.immediate < 2 ^ immWidth f) :
    decodeFields f x = .ok i ↔ i.wf f = true ∧ x = encodeFields f.g i := by
  simp only [decodeFields_eq_ok_iff, decodeSel_eq_some_iff, decodeDest_eq_some_iff, instrOf_eq_some_iff, Instr.wf_iff,
    true_and]
  constructor
  · rintro ⟨⟨hl, hxl⟩, ⟨hr, hxr⟩, ⟨hd, hxd⟩, ⟨hop, hv⟩, hset⟩
    refine ⟨⟨hl, hr, hd, hv ▸ himm, hset⟩, ?_⟩
    cases x
    simp_all [encodeFields]
  · rintro ⟨⟨hl, hr, hd, -, hset⟩, rfl⟩
    exact ⟨⟨hl, rfl⟩, ⟨hr, rfl⟩, ⟨hd, rfl⟩, ⟨rfl, rfl⟩, hset⟩

/-- Decoding and encoding are inverse: the words that decode to an instruction are its one word, if it exists. -/
theorem decodeWord_eq_ok_iff_encodeWord {f : Format} {w : Nat} {i : Instr} :
    decodeWord f w = .ok i ↔ i.wf f = true ∧ encodeWord f.g i = w := by
  rw [decodeWord_eq_ok_iff, decodeFields_eq_ok_iff_encodeFields (splitWord_fit f w).immediate]
  constructor
  · rintro ⟨hw, hwf, hx⟩
    exact ⟨hwf, by rw [encodeWord, ← hx, joinFields_splitWord hw]⟩
  · rintro ⟨hwf, rfl⟩
    exact ⟨encodeWord_lt hwf, hwf, splitWord_joinFields (encodeFields_fit hwf)⟩

/-! ### Stored bytes -/

@[simp] theorem length_bytesOfWord (n w : Nat) : (bytesOfWord n w).length = n := by
  simp [bytesOfWord]

/-- Byte `k` of a stored word holds its bits `[8k+7 : 8k]` (R124). -/
theorem getLsbD_of_bytesOfWord {n w k j : Nat} {b : Byte} (h : (bytesOfWord n w)[k]? = some b) (hj : j < 8) :
    b.getLsbD j = w.testBit (8 * k + j) := by
  rw [bytesOfWord, List.getElem?_map, Option.map_eq_some_iff] at h
  obtain ⟨m, hm, rfl⟩ := h
  obtain ⟨_, rfl⟩ := List.getElem?_eq_some_iff.mp hm
  rw [BitVec.getLsbD_ofNat, testBit_bitField, List.getElem_range]
  simp only [hj, decide_true, Bool.true_and]

/-- A stored word is its least significant byte and the bytes of the rest. -/
theorem bytesOfWord_succ (n w : Nat) :
    bytesOfWord (n + 1) w = BitVec.ofNat 8 (w % 2 ^ 8) :: bytesOfWord n (w / 2 ^ 8) := by
  simp only [bytesOfWord, List.range_succ_eq_map, List.map_cons, List.map_map, Nat.mul_zero, bitField_zero]
  congr 2
  funext k
  simp only [Function.comp_apply, Nat.succ_eq_add_one, Nat.mul_add_one, Nat.add_comm _ 8, bitField_add]

theorem natOfBytes_bytesOfWord (n w : Nat) : natOfBytes (bytesOfWord n w) = w % 2 ^ (8 * n) := by
  induction n generalizing w with
  | zero => simp [bytesOfWord, natOfBytes, Nat.mod_one]
  | succ n ih =>
    rw [bytesOfWord_succ, natOfBytes, ih, Nat.mul_add_one, Nat.add_comm (8 * n), Nat.pow_add, Nat.mod_mul]
    simp

/-- Bytes written are read back, with the bytes that follow. -/
theorem wordOfBytes_append {n w : Nat} (h : w < 2 ^ (8 * n)) (rest : List Byte) :
    wordOfBytes n (bytesOfWord n w ++ rest) = some (w, rest) := by
  simp [wordOfBytes, List.take_left', List.drop_left', natOfBytes_bytesOfWord, Nat.mod_eq_of_lt h]

theorem ilen_le_storedBytes (f : Format) : ilen f ≤ 8 * storedBytes f := by
  rw [storedBytes]
  omega

theorem decodeBytes_append {f : Format} {i : Instr} {w : Nat} (h : decodeWord f w = .ok i) (rest : List Byte) :
    decodeBytes f (bytesOfWord (storedBytes f) w ++ rest) = .ok (i, rest) := by
  have hw : w < 2 ^ (8 * storedBytes f) :=
    (decodeWord_eq_ok_iff.mp h).1.trans_le (Nat.pow_le_pow_right Nat.two_pos (ilen_le_storedBytes f))
  simp only [decodeBytes, wordOfBytes_append hw, h]

/-! ### The statements -/

/-- Settles O1: an instruction that exists is the one its word decodes to. -/
theorem decodeInvertsEncode : Obligations.DecodeInvertsEncode := by
  unfold Obligations.DecodeInvertsEncode
  intro f i _ _ hwf
  exact decodeWord_eq_ok_iff_encodeWord.mpr ⟨hwf, rfl⟩

/-- Settles O2: the only word that decodes to an instruction is its own. -/
theorem encodeInvertsDecode : Obligations.EncodeInvertsDecode := by
  unfold Obligations.EncodeInvertsDecode
  intro f w i _ _ h
  exact (decodeWord_eq_ok_iff_encodeWord.mp h).symm

/-- Settles O3: bytes read back are the word modulo `256^n`, and a word of an instruction has no bit above `ILEN`. -/
theorem bytesRoundTrip : Obligations.BytesRoundTrip := by
  unfold Obligations.BytesRoundTrip
  refine ⟨by decide, fun f i rest hg _ hwf => ?_⟩
  have hlen : (encodeBytes f i).length = storedBytes f := length_bytesOfWord ..
  have hpos : 0 < ilen f := by
    rw [ilen, opcodeWidth]
    omega
  refine ⟨?_, ?_, fun k b hb j hj => getLsbD_of_bytesOfWord hb hj, fun j hj => ?_, ?_⟩
  · rw [hlen, storedBytes]
    omega
  · rw [hlen]
    exact ilen_le_storedBytes f
  · exact Nat.testBit_lt_two_pow ((encodeWord_lt hwf).trans_le (Nat.pow_le_pow_right Nat.two_pos hj))
  · exact decodeBytes_append (decodeWord_eq_ok_iff_encodeWord.mpr ⟨hwf, rfl⟩) rest

/-- Settles O8: the fields a decoded word was split into, at the widths of `G = 4`. -/
theorem decodeReadsTheFiveFields : Obligations.DecodeReadsTheFiveFields := by
  unfold Obligations.DecodeReadsTheFiveFields
  intro e w i h
  obtain ⟨hw, hfields⟩ := decodeWord_eq_ok_iff.mp h
  rw [ilen_canonical] at hw
  rw [splitWord_canonical] at hfields
  obtain ⟨hl, hr, hd, hi⟩ := decodeFields_eq_ok_iff.mp hfields
  obtain ⟨⟨hop, -, -, -, hv⟩, -⟩ := instrOf_eq_some_iff.mp hi
  exact ⟨hw, hl, hr, hd, hop.symm, hv.symm⟩

/-- Settles O9: each field decodes exactly if its value is not reserved. -/
theorem validWordsAreTheUnreservedOnes : Obligations.ValidWordsAreTheUnreservedOnes := by
  unfold Obligations.ValidWordsAreTheUnreservedOnes
  intro f w _ hg
  simp only [decodeWord_eq_ok_iff, exists_and_left]
  exact and_congr_right fun _ => exists_decodeFields_iff hg (splitWord f w)

/-- Settles O4: each word is the encoding of its instruction. -/
theorem writtenWordsDecode : Obligations.WrittenWordsDecode := by
  unfold Obligations.WrittenWordsDecode
  simp only [decodeWord_eq_ok_iff_encodeWord]
  decide

/-- Settles O5: the widths at each register count, and that they are the least with room for the numbers. -/
theorem fieldWidths : Obligations.FieldWidths := by
  unfold Obligations.FieldWidths
  have hdest (g : Nat) (h4 : 4 ≤ g) (h7 : g ≤ 7) := destWidth_eq_three h4 h7
  refine ⟨⟨selWidth_four, hdest 4 (by decide) (by decide), ilen_canonical⟩, fun g h5 h7 => ?_, fun g h4 _ => ?_, rfl,
    fun f => ⟨rfl, rfl⟩⟩
  · have hsel := selWidth_of_five_le h5 h7
    refine ⟨hsel, hdest g (by omega) h7, fun e => ?_⟩
    rw [ilen, hsel, hdest g (by omega) h7]
    rfl
  · exact ⟨le_two_pow_ceilLog2 _, two_pow_ceilLog2_pred_lt (by omega), le_two_pow_ceilLog2 _,
      two_pow_ceilLog2_pred_lt (by omega)⟩

/-- Settles O6: the decoder's numbers are the encoder's, and no other number is in use. -/
theorem selectorAndDestinationNumbering : Obligations.SelectorAndDestinationNumbering := by
  unfold Obligations.SelectorAndDestinationNumbering
  intro g _ hg
  have hsel (s : Sel) (hwf : s.wf g = true) : decodeSel g (encodeSel g s) = some s :=
    decodeSel_eq_some_iff.mpr ⟨hwf, rfl⟩
  have hdest (d : Dest) (hwf : d.wf g = true) : decodeDest g (encodeDest g d) = some d :=
    decodeDest_eq_some_iff.mpr ⟨hwf, rfl⟩
  refine ⟨⟨fun n hn => hsel (.gp n) (decide_eq_true hn), hsel .xpos rfl, hsel .ypos rfl, hsel .frame rfl,
      hsel .imm rfl, fun v hv => ?_⟩, fun n hn => hdest (.gp n) (decide_eq_true hn), hdest .output rfl,
      fun v hv => ?_⟩
  · refine Option.eq_none_iff_forall_ne_some.mpr fun s hs => ?_
    exact absurd ((exists_decodeSel_iff hg v).mp ⟨s, hs⟩) (Nat.not_lt.mpr hv)
  · refine Option.eq_none_iff_forall_ne_some.mpr fun d hd => ?_
    exact absurd ((exists_decodeDest_iff hg v).mp ⟨d, hd⟩) (Nat.not_le.mpr hv)

/-- Settles O7: the opcode numbers in use are those of the table, up to 10 or up to 5. -/
theorem opcodeNumbering : Obligations.OpcodeNumbering := by
  unfold Obligations.OpcodeNumbering
  intro e l r d v
  have hnone (e : Bool) (op : Nat) (h : ¬ op ≤ if e then 10 else 5) : instrOf e op l r d v = none :=
    Option.eq_none_iff_forall_ne_some.mpr fun i hi => h ((exists_instrOf_iff e op l r d v).mp ⟨i, hi⟩)
  refine ⟨rfl, rfl, rfl, rfl, rfl, rfl, rfl, rfl, rfl, rfl, rfl, fun op hop => hnone false op ?_,
    fun op hop => hnone e op ?_⟩
  · exact Nat.not_le.mpr hop
  · split <;> omega

end Sys2Proof

/-! PROOFS. What an instruction's operands depend on (30_encoding.md R119), and the pseudo-instructions (R141 to R145): what
each line assembles to, and what its instruction commits. -/

namespace Sys2Proof

namespace Machine

/-! ### What an instruction reads -/

/-- Only `IMM` reads the immediate (R191). -/
theorem State.operand_of_ne_imm (s : State) {sel : Sel} (h : sel ≠ .imm) (v v' : Nat) (ln : Lane) :
    s.operand sel v ln = s.operand sel v' ln := by
  cases sel with
  | imm => exact absurd rfl h
  | _ => rfl

theorem State.runLanes_of_ne_imm (s : State) (op : Word s.cfg.regWidth → Word s.cfg.regWidth → Word s.cfg.regWidth)
    {l r : Sel} (d : Dest) (hl : l ≠ .imm) (hr : r ≠ .imm) (v v' : Nat) :
    s.runLanes op l r d v = s.runLanes op l r d v' := by
  simp only [State.runLanes, s.operand_of_ne_imm hl v v', s.operand_of_ne_imm hr v v']

/-- A mnemonic stands for one operation in all lanes, the same for all fields (R294). -/
theorem exec_build_runs_lanes (m : Mnemonic) (s : State) :
    ∃ op, ∀ l r d v, exec (m.build l r d v) s = .next (s.runLanes op l r d v) := by
  cases m <;> exact ⟨_, fun _ _ _ _ => rfl⟩

/-- The literal 0 as an operand. -/
theorem State.operand_imm_zero (s : State) (ln : Lane) : s.operand .imm 0 ln = 0#_ := rfl

section exec
variable (l r : Sel) (d : Dest) (imm : Nat) (s : State)

theorem exec_or : exec (.or l r d imm) s = .next (s.runLanes (fun a b => a ||| b) l r d imm) := rfl

theorem exec_xor : exec (.xor l r d imm) s = .next (s.runLanes (fun a b => a ^^^ b) l r d imm) := rfl

theorem exec_sub : exec (.sub l r d imm) s = .next (s.runLanes (fun a b => a - b) l r d imm) := rfl

/-- OR of an operand with itself commits that operand. -/
theorem exec_or_self : exec (.or l l d imm) s = .next (s.runLanes (fun a _ => a) l l d imm) := by
  simp only [exec_or, State.runLanes, BitVec.or_self]

end exec

/-- Committing to a register the value it holds leaves the lane as it was (R201). -/
theorem Lane.commit_readGp (ln : Lane) (c w : Nat) (n : Fin 7) (h : ln.readGp n < 2 ^ w) :
    ln.commit c (.gp n) (BitVec.ofNat w (ln.readGp n)) = ln := by
  have hset : ln.gp.set n.val (ln.readGp n) = ln.gp := by
    refine List.ext_getElem (List.length_set ..) fun k _ hk => ?_
    rw [List.getElem_set]
    split
    · next hn => simp [Lane.readGp, hn, hk]
    · rfl
  simp only [Lane.commit, BitVec.toNat_ofNat, Nat.mod_eq_of_lt h, hset]

end Machine

/-! ### Assembly -/

theorem AsmOperand.assemble_literal {w : Nat} {v : Int} (hlo : -(2 ^ (w - 1)) ≤ v) (hhi : v ≤ 2 ^ w - 1) :
    (AsmOperand.literal v).assemble w = .ok (.imm, some (v % 2 ^ w).toNat) := if_pos ⟨hlo, hhi⟩

/-- The literal 0 is in range for every `W`. -/
theorem AsmOperand.assemble_zero (w : Nat) : (AsmOperand.literal 0).assemble w = .ok (.imm, some 0) := by
  have hpow (k : Nat) : (0 : Int) < 2 ^ k := by positivity
  rw [AsmOperand.assemble_literal (by have := hpow (w - 1); omega) (by have := hpow w; omega)]
  simp

/-- Both operands of MOV are the same literal, or none. -/
theorem sharedImmediate_self (imm : Option Nat) : sharedImmediate imm imm = .ok (imm.getD 0) := by
  cases imm with
  | none => rfl
  | some v => exact if_pos rfl

/-- The literal 0 of NEG leaves room for no other literal (R141, R143). -/
theorem sharedImmediate_zero (imm : Option Nat) :
    sharedImmediate (some 0) imm = if imm.getD 0 = 0 then .ok 0 else .error .twoLiterals := by
  cases imm with
  | none => rfl
  | some v => simp only [sharedImmediate, Option.getD_some, eq_comm]

section assembleBinary
variable {f : Format} {l r : AsmOperand} {sl sr : Sel} {il ir : Option Nat} (m : Mnemonic) (d : Dest)
  (hl : l.assemble f.w = .ok (sl, il)) (hr : r.assemble f.w = .ok (sr, ir))
include hl hr

/-- A line assembles to its fields, where its registers exist and its literals share one immediate (R140, R141). -/
theorem assembleBinary_eq_checkRegisters {imm : Nat} (himm : sharedImmediate il ir = .ok imm) :
    assembleBinary f m l r d = checkRegisters f.g (m.build sl sr d imm) := by
  simp only [assembleBinary, hl, hr, himm]

theorem assembleBinary_eq_error {e : AsmError} (himm : sharedImmediate il ir = .error e) :
    assembleBinary f m l r d = .error e := by
  simp only [assembleBinary, hl, hr, himm]

end assembleBinary

/-- The registers of an instruction are those of its selectors and its destination. -/
theorem checkRegisters_build {g : Nat} {l r : Sel} {d : Dest} (hl : l.wf g = true) (hr : r.wf g = true)
    (hd : d.wf g = true) (m : Mnemonic) (imm : Nat) :
    checkRegisters g (m.build l r d imm) = .ok (m.build l r d imm) := by
  have hleft : (m.build l r d imm).left = l := by cases m <;> rfl
  have hright : (m.build l r d imm).right = r := by cases m <;> rfl
  have hdest : (m.build l r d imm).dest = d := by cases m <;> rfl
  simp only [checkRegisters, hleft, hright, hdest, hl, hr, hd, Bool.and_self, if_true]

theorem Sel.gp_zero_wf {g : Nat} (hg : 0 < g) : (Sel.gp 0).wf g = true := decide_eq_true hg

theorem Dest.gp_zero_wf {g : Nat} (hg : 0 < g) : (Dest.gp 0).wf g = true := decide_eq_true hg

section assemble
variable {f : Format} {src : AsmOperand} {sel : Sel} {imm : Option Nat} {d : Dest}

/-- R142. -/
theorem AsmLine.assemble_mov (hsrc : src.assemble f.w = .ok (sel, imm)) (hsel : sel.wf f.g = true)
    (hd : d.wf f.g = true) : (AsmLine.mov src d).assemble f = .ok (.or sel sel d (imm.getD 0)) :=
  (assembleBinary_eq_checkRegisters .or d hsrc hsrc (sharedImmediate_self imm)).trans
    (checkRegisters_build hsel hsel hd .or _)

/-- R143. -/
theorem AsmLine.assemble_neg (hsrc : src.assemble f.w = .ok (sel, imm)) (hsel : sel.wf f.g = true)
    (hd : d.wf f.g = true) (himm : imm.getD 0 = 0) : (AsmLine.neg src d).assemble f = .ok (.sub .imm sel d 0) :=
  (assembleBinary_eq_checkRegisters .sub d (AsmOperand.assemble_zero f.w) hsrc
      ((sharedImmediate_zero imm).trans (if_pos himm))).trans
    (checkRegisters_build rfl hsel hd .sub 0)

/-- R141, R143. -/
theorem AsmLine.assemble_neg_literal (hsrc : src.assemble f.w = .ok (sel, imm)) (himm : imm.getD 0 ≠ 0) :
    (AsmLine.neg src d).assemble f = .error .twoLiterals :=
  assembleBinary_eq_error .sub d (AsmOperand.assemble_zero f.w) hsrc ((sharedImmediate_zero imm).trans (if_neg himm))

/-- A mnemonic on `GP0` and `GP0`, which exists for every `G` of 1 or more, holds the immediate 0. -/
theorem assembleBinary_gp0 (hg : 0 < f.g) (hd : d.wf f.g = true) (m : Mnemonic) :
    assembleBinary f m (.gp 0) (.gp 0) d = .ok (m.build (.gp 0) (.gp 0) d 0) :=
  (assembleBinary_eq_checkRegisters m d rfl rfl rfl).trans
    (checkRegisters_build (Sel.gp_zero_wf hg) (Sel.gp_zero_wf hg) hd m 0)

end assemble

/-! ### The statements -/

open Machine

/-- Settles O24: each operand is the same under every immediate, and the operation is the mnemonic's alone. -/
theorem unusedImmediateHasNoEffect : Obligations.UnusedImmediateHasNoEffect := by
  unfold Obligations.UnusedImmediateHasNoEffect
  intro m l r d v v' s hl hr
  obtain ⟨op, hop⟩ := exec_build_runs_lanes m s
  rw [hop, hop, s.runLanes_of_ne_imm op d hl hr v v']

/-- Settles O27: the assembly of each line, and the commit of what its instruction computes in every lane. -/
theorem pseudoInstructionsCommit : Obligations.PseudoInstructionsCommit := by
  unfold Obligations.PseudoInstructionsCommit
  refine ⟨fun w v hlo hhi => AsmOperand.assemble_literal hlo hhi,
    fun w => ⟨fun _ => rfl, rfl, rfl, rfl⟩, fun f src d sel imm s hg _ hsrc hsel hd => ?_⟩
  refine ⟨⟨AsmLine.assemble_mov hsrc hsel hd, ?mov⟩, fun himm => ⟨AsmLine.assemble_neg hsrc hsel hd himm, ?neg⟩,
    AsmLine.assemble_neg_literal hsrc, assembleBinary_gp0 (Nat.zero_lt_of_lt hg) hd .xor, ?clr⟩
  case mov => exact ⟨_, _, exec_or_self .., s.runLanes_commits .., fun _ => rfl⟩
  case neg =>
    refine ⟨_, _, exec_sub .., s.runLanes_commits .., fun ln => ?_⟩
    rw [State.operand_imm_zero, BitVec.toNat_sub, BitVec.toNat_zero, Nat.add_zero]
  case clr => exact ⟨_, _, exec_xor .., s.runLanes_commits .., fun _ => BitVec.xor_self⟩

/-- Settles O28: OR of a register with itself commits the value the register holds, in every lane. -/
theorem nopChangesNothing : Obligations.NopChangesNothing := by
  unfold Obligations.NopChangesNothing
  refine ⟨fun f hg => ?_, fun n imm s hs => ?_⟩
  · have hg : 0 < f.g := Nat.zero_lt_of_lt hg
    exact assembleBinary_gp0 hg (Dest.gp_zero_wf hg) .or
  · have hlanes : s.lanes.map (fun ln => ln.commit s.cfg.colorDepth (.gp n) (s.operand (.gp n) imm ln)) =
        s.lanes.map id :=
      List.map_congr_left fun ln hln => Lane.commit_readGp ln s.cfg.colorDepth s.cfg.regWidth n (hs ln hln)
    rw [exec_or_self, State.runLanes, hlanes, List.map_id]

end Sys2Proof

/-! PROOFS. The Timing Generator (40_timing_generator.md R150 to R171): that a core whose checks passed ticks, its signals
as facts about the counters, and the two counters as one that counts the ticks of a frame. -/

namespace Sys2Proof

/-! ### What the passing checks give the fetch -/

theorem validFields_iff {f : Format} {w : Nat} :
    validFields f w = true ↔ ∃ i, decodeFields f (splitWord f w) = .ok i := by
  unfold validFields
  cases decodeFields f (splitWord f w) <;> simp

theorem gOk_of_parameterErrors_eq_nil {c : Config} (h : parameterErrors c = []) : c.gOk = true := by
  simp only [parameterErrors, List.append_eq_nil_iff, ite_eq_left_iff, List.cons_ne_nil, imp_false, not_not] at h
  obtain ⟨⟨⟨⟨-, hg⟩, -⟩, -⟩, -⟩ := h
  exact hg

theorem programErrors_eq_nil {c : Config} (hg : c.gOk = true) : programErrors c = [] ↔
    c.programSizeOk = true ∧ ∀ w ∈ c.prog, validFields c.format w = true := by
  unfold programErrors
  rw [List.append_eq_nil_iff, if_pos hg]
  refine and_congr (by simp) ?_
  cases hk : c.prog.findIdx? fun w => !validFields c.format w with
  | none => simpa using hk
  | some k =>
    have hsome : (c.prog.findIdx? fun w => !validFields c.format w) ≠ none := by simp [hk]
    simpa [List.findIdx?_eq_none_iff] using hsome

theorem Config.programSizeOk_iff {c : Config} (hg : c.gOk = true) : c.programSizeOk = true ↔
    1 ≤ c.p ∧ c.p ≤ c.n ∧ c.prog.length = c.p ∧ ∀ w ∈ c.prog, w < 2 ^ ilen c.format := by
  simp [Config.programSizeOk, hg, and_assoc]

/-- Every word of a program that passed its checks decodes (R387). -/
theorem Config.exists_decodeWord {c : Config} (h : configErrors c = []) {k : Nat} (hk : k < c.p) :
    ∃ w i, c.prog[k]? = some w ∧ decodeWord c.format w = .ok i := by
  obtain ⟨-, -, hparam, hprog, -⟩ := configErrors_eq_nil.mp h
  have hg := gOk_of_parameterErrors_eq_nil hparam
  obtain ⟨hsize, hvalid⟩ := (programErrors_eq_nil hg).mp hprog
  obtain ⟨-, -, hlen, hbits⟩ := (Config.programSizeOk_iff hg).mp hsize
  rw [← hlen] at hk
  have hmem : c.prog[k] ∈ c.prog := List.getElem_mem hk
  obtain ⟨i, hi⟩ := validFields_iff.mp (hvalid _ hmem)
  exact ⟨c.prog[k], i, List.getElem?_eq_getElem hk, by rw [decodeWord, if_pos (hbits _ hmem), hi]⟩

namespace Machine

/-! ### A tick -/

/-- The running core answers every tick (R292, R380): the word at `pc` decodes, and its instruction commits. -/
theorem State.Ticks.exists_step {s : State} (h : s.Ticks) : ∃ t, step s = .next t := by
  obtain ⟨hok, hrst, hpc⟩ := h
  unfold step
  simp only [hok, hrst, Bool.false_eq_true, if_false]
  cases hpp : s.cfg.pixelProcessor with
  | false => exact ⟨_, rfl⟩
  | true =>
    obtain ⟨w, i, hw, hi⟩ := Config.exists_decodeWord hok (hpc hpp)
    obtain ⟨op, hop⟩ := exec_runs_lanes i s
    simp [fetch_eq_some.mpr ⟨w, hw, hi⟩, hop]

/-- Without reset a step is the clock edge, after commits to the lanes or none (R80). -/
theorem step_eq_clockEdge {s t : State} (hrst : s.rst = false) (h : step s = .next t) :
    ∃ c, c = { s with lanes := c.lanes } ∧ t = s.clockEdge c := by
  obtain ⟨-, ⟨hr, -⟩ | ⟨-, -, ht⟩ | ⟨-, -, i, op, -, -, ht⟩⟩ := step_next_cases h
  · simp [hrst] at hr
  · exact ⟨s, rfl, ht⟩
  · exact ⟨_, s.runLanes_frame .., ht⟩

/-- Without reset a step moves the counters (R153, R154), keeps the configuration (R46) and uses up one input. -/
theorem step_timing {s t : State} (hrst : s.rst = false) (h : step s = .next t) :
    t.cfg = s.cfg ∧ t.scanCounter = s.nextScan ∧ t.lineCounter = s.nextLine ∧ t.inputs = s.inputs.tail := by
  obtain ⟨c, hc, rfl⟩ := step_eq_clockEdge hrst h
  exact ⟨by rw [State.clockEdge_cfg, hc], rfl, rfl, rfl⟩

/-- What a tick does to the counters. -/
theorem State.Ticks.exists_step_counters {s : State} (h : s.Ticks) :
    ∃ t, step s = .next t ∧ t.scanCounter = s.nextScan ∧ t.lineCounter = s.nextLine := by
  obtain ⟨t, ht⟩ := h.exists_step
  obtain ⟨-, hrst, -⟩ := h
  obtain ⟨-, hscan, hline, -⟩ := step_timing hrst ht
  exact ⟨t, ht, hscan, hline⟩

/-! ### The remaining signals and the next counters -/

theorem State.vActive_iff {s : State} : s.vActive = true ↔
    s.cfg.res.v.prescan ≤ s.lineCounter ∧ s.lineCounter < s.cfg.res.v.prescan + s.cfg.height := by
  simp [State.vActive]

theorem State.newFrame_iff {s : State} : s.newFrame = true ↔
    s.scanCounter = s.cfg.res.h.prescan ∧ s.lineCounter = s.cfg.res.v.prescan := by
  simp [State.newFrame]

theorem State.hsync_iff {s : State} : s.hsync = true ↔ s.scanCounter < s.cfg.res.h.syncPulse := decide_eq_true_iff

theorem State.vsync_iff {s : State} : s.vsync = true ↔ s.lineCounter < s.cfg.res.v.syncPulse := decide_eq_true_iff

theorem clampPos_eq_min (prescan extent counter : Nat) :
    clampPos prescan extent counter = min (counter - prescan) extent := by
  unfold clampPos
  split_ifs <;> omega

theorem State.scanWraps_iff {s : State} : s.scanWraps = true ↔ s.scanCounter = s.cfg.res.h.fullscan - 1 := beq_iff_eq

section next
variable {s : State}

theorem State.nextScan_of_wraps (h : s.scanCounter = s.cfg.res.h.fullscan - 1) : s.nextScan = 0 :=
  if_pos (State.scanWraps_iff.mpr h)

theorem State.nextScan_of_not_wraps (h : s.scanCounter ≠ s.cfg.res.h.fullscan - 1) : s.nextScan = s.scanCounter + 1 :=
  if_neg (State.scanWraps_iff.not.mpr h)

theorem State.nextLine_of_wraps (h : s.scanCounter = s.cfg.res.h.fullscan - 1) :
    s.nextLine = if s.lineCounter = s.cfg.res.v.fullscan - 1 then 0 else s.lineCounter + 1 := by
  simp [State.nextLine, State.scanWraps_iff.mpr h]

theorem State.nextLine_of_not_wraps (h : s.scanCounter ≠ s.cfg.res.h.fullscan - 1) : s.nextLine = s.lineCounter :=
  if_neg (State.scanWraps_iff.not.mpr h)

end next

/-- The position `x`, `y` of the picture is on the screen exactly where the counters are that far into the window. -/
theorem State.active_at_iff {s : State} {x y : Nat} (hx : x < s.cfg.width) (hy : y < s.cfg.height) :
    (s.active = true ∧ s.xPos = x ∧ s.yPos = y) ↔
      s.scanCounter = s.cfg.res.h.prescan + x ∧ s.lineCounter = s.cfg.res.v.prescan + y := by
  simp only [State.active_iff, State.hActive_iff, State.vActive_iff, State.xPos, State.yPos, clampPos_eq_min]
  omega

/-! ### Counting in lines: a pair of counters as one number -/

section lines
variable {m n i i' j j' : Nat}

theorem lineMajor_lt (hi : i < m) (hj : j < n) : i + m * j < m * n :=
  calc i + m * j < m + m * j := Nat.add_lt_add_right hi _
    _ = m * (j + 1) := by ring
    _ ≤ m * n := Nat.mul_le_mul_left m hj

theorem lineMajor_inj (hi : i < m) (hi' : i' < m) : i + m * j = i' + m * j' ↔ i = i' ∧ j = j' := by
  refine ⟨fun h => ?_, fun ⟨hii, hjj⟩ => by rw [hii, hjj]⟩
  have hm : 0 < m := Nat.zero_lt_of_lt hi
  have hmod := congrArg (· % m) h
  have hdiv := congrArg (· / m) h
  simp only [Nat.add_mul_mod_self_left, Nat.mod_eq_of_lt, hi, hi'] at hmod
  simp only [Nat.add_mul_div_left _ _ hm, Nat.div_eq_of_lt, hi, hi', Nat.zero_add] at hdiv
  exact ⟨hmod, hdiv⟩

end lines

/-- A counter modulo `m` takes each value once in `m` ticks, wherever it begins. -/
theorem existsUnique_add_mod_eq {m p q : Nat} (hp : p < m) (hq : q < m) : ∃! k, k < m ∧ (p + k) % m = q := by
  have hmod {k : Nat} (hk : k < m) : (p + k) % m = if m ≤ p + k then p + k - m else p + k := by
    rw [Nat.add_mod_eq_ite, Nat.mod_eq_of_lt hp, Nat.mod_eq_of_lt hk]
  have hkey {k : Nat} (hk : k < m) : (p + k) % m = q ↔ k = if p ≤ q then q - p else q + m - p := by
    rw [hmod hk]
    split_ifs <;> omega
  have hlt : (if p ≤ q then q - p else q + m - p) < m := by split_ifs <;> omega
  exact ⟨_, ⟨hlt, (hkey hlt).mpr rfl⟩, fun _ ⟨hk, hkq⟩ => (hkey hk).mp hkq⟩

/-- A counter modulo `m` is back where it was exactly after multiples of `m` ticks. -/
theorem add_mod_eq_self_iff {m p k : Nat} (hp : p < m) : (p + k) % m = p ↔ m ∣ k :=
  calc (p + k) % m = p ↔ p + k ≡ p + 0 [MOD m] := by rw [Nat.ModEq, Nat.add_zero, Nat.mod_eq_of_lt hp]
    _ ↔ k ≡ 0 [MOD m] := ⟨Nat.ModEq.add_left_cancel' p, Nat.ModEq.add_left p⟩
    _ ↔ m ∣ k := Nat.modEq_zero_iff_dvd

/-! ### The tick of the frame -/

/-- How many ticks of its frame, counted line by line from counters 0 and 0, are over (R155). -/
def State.frameTick (s : State) : Nat := s.scanCounter + s.cfg.res.h.fullscan * s.lineCounter

theorem State.InRange.frameTick_lt {s : State} (h : s.InRange) :
    s.frameTick < s.cfg.res.h.fullscan * s.cfg.res.v.fullscan := lineMajor_lt h.scan h.line

theorem State.InRange.frameTick_eq_iff {s : State} (h : s.InRange) {i j : Nat} (hi : i < s.cfg.res.h.fullscan) :
    s.frameTick = i + s.cfg.res.h.fullscan * j ↔ s.scanCounter = i ∧ s.lineCounter = j := lineMajor_inj h.scan hi

/-- The next counters are the next tick of the frame, and the last tick is followed by the first (R153, R154). -/
theorem State.InRange.next_frameTick {s : State} (h : s.InRange) :
    s.nextScan + s.cfg.res.h.fullscan * s.nextLine =
      (s.frameTick + 1) % (s.cfg.res.h.fullscan * s.cfg.res.v.fullscan) := by
  have hscan := h.scan
  have hline := h.line
  by_cases hw : s.scanCounter = s.cfg.res.h.fullscan - 1
  · have htick : s.frameTick + 1 = s.cfg.res.h.fullscan * (s.lineCounter + 1) := by
      rw [Nat.mul_succ, State.frameTick]
      omega
    rw [State.nextScan_of_wraps hw, State.nextLine_of_wraps hw, htick, Nat.mul_mod_mul_left, Nat.zero_add]
    split
    · next hl => rw [show s.lineCounter + 1 = s.cfg.res.v.fullscan by omega, Nat.mod_self]
    · next hl => rw [Nat.mod_eq_of_lt (by omega)]
  · have htick : s.frameTick + 1 = s.scanCounter + 1 + s.cfg.res.h.fullscan * s.lineCounter := Nat.add_right_comm ..
    rw [State.nextScan_of_not_wraps hw, State.nextLine_of_not_wraps hw, htick,
      Nat.mod_eq_of_lt (lineMajor_lt (by omega) hline)]

/-! ### Runs without reset -/

/-- A state of a run in which no reset is to come. -/
structure State.TicksOn (s : State) : Prop where
  checked : configErrors s.cfg = []
  inRange : s.InRange
  noReset : NoReset s.inputs

theorem State.TicksOn.rst {s : State} (h : s.TicksOn) : s.rst = false := by
  have hn := h.noReset
  unfold State.rst State.input
  cases hi : s.inputs with
  | nil => rfl
  | cons x xs => exact hn x (by simp [hi])

theorem State.TicksOn.ticks {s : State} (h : s.TicksOn) : s.Ticks := by
  refine ⟨h.checked, h.rst, fun _ => ?_⟩
  have hp := Config.p_pos h.checked
  have hpc := h.inRange.pc
  omega

theorem State.TicksOn.step {s t : State} (h : s.TicksOn) (hstep : step s = .next t) : t.TicksOn := by
  obtain ⟨hcfg, -, -, hinputs⟩ := step_timing h.rst hstep
  exact {
    checked := hcfg ▸ h.checked
    inRange := step_inRange h.inRange hstep
    noReset := fun x hx => h.noReset x (List.mem_of_mem_tail (hinputs ▸ hx)) }

theorem State.TicksOn.exists_reaches {s : State} (h : s.TicksOn) (k : Nat) : ∃ u, Reaches s k u ∧ u.TicksOn := by
  induction k with
  | zero => exact ⟨s, rfl, h⟩
  | succ k ih =>
    obtain ⟨u, hu, hon⟩ := ih
    obtain ⟨t, ht⟩ := hon.ticks.exists_step
    exact ⟨t, ⟨u, hu, ht⟩, hon.step ht⟩

/-- `k` ticks later the frame is `k` ticks further, modulo its length. -/
theorem State.TicksOn.reaches {s : State} (h : s.TicksOn) {k : Nat} {u : State} (hu : Reaches s k u) :
    u.TicksOn ∧ u.cfg = s.cfg ∧
      u.frameTick = (s.frameTick + k) % (s.cfg.res.h.fullscan * s.cfg.res.v.fullscan) := by
  induction k generalizing u with
  | zero =>
    obtain rfl : u = s := hu
    exact ⟨h, rfl, (Nat.mod_eq_of_lt h.inRange.frameTick_lt).symm⟩
  | succ k ih =>
    obtain ⟨v, hv, hstep⟩ := hu
    obtain ⟨hon, hcfg, htick⟩ := ih hv
    obtain ⟨hcfg', hscan, hline, -⟩ := step_timing hon.rst hstep
    refine ⟨hon.step hstep, hcfg'.trans hcfg, ?_⟩
    rw [State.frameTick, hcfg', hscan, hline, hon.inRange.next_frameTick, hcfg, htick, Nat.mod_add_mod, Nat.add_assoc]

/-- Where the counters are after `k` ticks. -/
theorem State.TicksOn.exists_reaches_counters_iff {s : State} (h : s.TicksOn) {i : Nat} (j k : Nat)
    (hi : i < s.cfg.res.h.fullscan) :
    (∃ u, Reaches s k u ∧ u.scanCounter = i ∧ u.lineCounter = j) ↔
      (s.frameTick + k) % (s.cfg.res.h.fullscan * s.cfg.res.v.fullscan) = i + s.cfg.res.h.fullscan * j := by
  have hcounters {u : State} (hu : Reaches s k u) : (u.scanCounter = i ∧ u.lineCounter = j) ↔
      (s.frameTick + k) % (s.cfg.res.h.fullscan * s.cfg.res.v.fullscan) = i + s.cfg.res.h.fullscan * j := by
    obtain ⟨hon, hcfg, htick⟩ := h.reaches hu
    rw [← htick, ← hcfg]
    exact (hon.inRange.frameTick_eq_iff (hcfg ▸ hi)).symm
  constructor
  · rintro ⟨u, hu, hij⟩
    exact (hcounters hu).mp hij
  · intro htick
    obtain ⟨u, hu, -⟩ := h.exists_reaches k
    exact ⟨u, hu, (hcounters hu).mpr htick⟩

/-- In one frame period the counters take a pair of values exactly once (R155). -/
theorem State.TicksOn.existsUnique_counters {s : State} (h : s.TicksOn) {i j : Nat}
    (hi : i < s.cfg.res.h.fullscan) (hj : j < s.cfg.res.v.fullscan) :
    ∃! k, k < s.cfg.res.h.fullscan * s.cfg.res.v.fullscan ∧
      ∃ u, Reaches s k u ∧ u.scanCounter = i ∧ u.lineCounter = j := by
  simp only [h.exists_reaches_counters_iff j _ hi]
  exact existsUnique_add_mod_eq h.inRange.frameTick_lt (lineMajor_lt hi hj)

/-- From a frame pulse, the next ones stand at the multiples of the frame period (R155, R168). -/
theorem State.TicksOn.newFrame_iff_dvd {s u : State} {k : Nat} (h : s.TicksOn) (hs : s.newFrame = true)
    (hu : Reaches s k u) : u.newFrame = true ↔ s.cfg.res.h.fullscan * s.cfg.res.v.fullscan ∣ k := by
  obtain ⟨hon, hcfg, htick⟩ := h.reaches hu
  obtain ⟨hscan, hline⟩ := State.newFrame_iff.mp hs
  rw [State.newFrame_iff, hcfg, ← hscan, ← hline, ← hon.inRange.frameTick_eq_iff (hcfg ▸ h.inRange.scan), htick, hcfg]
  exact add_mod_eq_self_iff h.inRange.frameTick_lt

end Machine

theorem ScanTimings.prescan_add_lt_fullscan {t : ScanTimings} {k : Nat} (h : k < t.visible) :
    t.prescan + k < t.fullscan := by
  unfold ScanTimings.fullscan ScanTimings.overscan
  omega

/-! ### The statements -/

open Machine

/-- Settles O44: with no reset to come the two counters are one counter of the frame's ticks. -/
theorem framePeriod : Obligations.FramePeriod := by
  unfold Obligations.FramePeriod
  rintro s ⟨hok, -⟩ hin hnr
  have hs : s.TicksOn := ⟨hok, hin, hnr⟩
  exact ⟨fun i j hi hj => hs.existsUnique_counters hi hj, fun hnf k u hu => hs.newFrame_iff_dvd hnf hu⟩

/-- Settles O45: a position is active exactly at one pair of counter values, which the frame takes once. -/
theorem everyPixelOncePerFrame : Obligations.EveryPixelOncePerFrame := by
  unfold Obligations.EveryPixelOncePerFrame
  rintro s ⟨hok, -⟩ hin hnr x y hx hy
  have hs : s.TicksOn := ⟨hok, hin, hnr⟩
  have hactive {k : Nat} {u : State} (hu : Reaches s k u) : (u.active = true ∧ u.xPos = x ∧ u.yPos = y) ↔
      u.scanCounter = s.cfg.res.h.prescan + x ∧ u.lineCounter = s.cfg.res.v.prescan + y := by
    obtain ⟨-, hcfg, -⟩ := hs.reaches hu
    rw [State.active_at_iff (hcfg ▸ hx) (hcfg ▸ hy), hcfg]
  simp only [and_congr_right_iff.mpr hactive]
  exact hs.existsUnique_counters (ScanTimings.prescan_add_lt_fullscan hx) (ScanTimings.prescan_add_lt_fullscan hy)

/-- Settles O33: the presets are literals, and everything about them is computed. -/
theorem presetTable : Obligations.PresetTable := by
  unfold Obligations.PresetTable
  refine ⟨rfl, rfl, rfl, ?_⟩
  decide

/-- Settles O41, signal by signal. -/
theorem timingSignals : Obligations.TimingSignals := by
  unfold Obligations.TimingSignals
  intro s
  exact ⟨State.hActive_iff, State.vActive_iff, State.hsync_iff, State.vsync_iff, State.active_iff,
    clampPos_eq_min .., clampPos_eq_min .., State.newLine_iff, State.newFrame_iff, bne_iff_ne, bne_iff_ne⟩

/-- Settles O42: a tick is answered, and its edge moves the counter. -/
theorem horizontalCounterStep : Obligations.HorizontalCounterStep := by
  unfold Obligations.HorizontalCounterStep
  intro s hs
  obtain ⟨t, ht, hscan, -⟩ := hs.exists_step_counters
  exact ⟨t, ht, fun hw => hscan.trans (State.nextScan_of_wraps hw),
    fun hw => hscan.trans (State.nextScan_of_not_wraps hw)⟩

/-- Settles O43: a tick is answered, and its edge moves the counter where the horizontal one wraps. -/
theorem verticalCounterStep : Obligations.VerticalCounterStep := by
  unfold Obligations.VerticalCounterStep
  intro s hs
  obtain ⟨t, ht, -, hline⟩ := hs.exists_step_counters
  refine ⟨t, ht, fun hw hl => ?_, fun hw hl => ?_, fun hw => hline.trans (State.nextLine_of_not_wraps hw)⟩
  · rw [hline, State.nextLine_of_wraps hw, if_pos hl]
  · rw [hline, State.nextLine_of_wraps hw, if_neg hl]

end Sys2Proof

/-! PROOFS. The ends of the ALU's datapath (41_alu_datapath.md R191, R192, R198): the value each operand selector reads,
and what packing keeps of a result. -/

namespace Sys2Proof

namespace Machine

/-! ### The operand multiplexer -/

/-- A coordinate that fits is extended by zeros (R192). -/
theorem zextCoordinate_of_lt {w v : Nat} (h : v < 2 ^ w) : zextCoordinate w v = BitVec.ofNat w v := if_pos h

theorem Lane.readGp_of_getElem? {ln : Lane} {n : Fin 7} {v : Nat} (h : ln.gp[n.val]? = some v) : ln.readGp n = v := by
  rw [Lane.readGp, List.getD_eq_getElem?_getD, h, Option.getD_some]

section operand
variable (s : State) (imm : Nat) (ln : Lane)

theorem State.operand_gp (n : Fin 7) : s.operand (.gp n) imm ln = BitVec.ofNat _ (ln.readGp n) := rfl

theorem State.operand_xpos : s.operand .xpos imm ln = zextCoordinate _ ln.xCoord := rfl

theorem State.operand_ypos : s.operand .ypos imm ln = zextCoordinate _ s.yCoord := rfl

theorem State.operand_frame : s.operand .frame imm ln = BitVec.ofNat _ s.frameCounter := rfl

theorem State.operand_imm : s.operand .imm imm ln = BitVec.ofNat _ imm := rfl

end operand

end Machine

open Machine

/-- Settles O21, selector by selector: each reads its source as a word of `W` bits, which a value of that width fits. -/
theorem operandMultiplexer : Obligations.OperandMultiplexer := by
  unfold Obligations.OperandMultiplexer
  intro s imm ln
  refine ⟨fun n v hn hv => ?gp, fun hx => ?xpos, fun hy => ?ypos, fun hf => ?frame, fun hi => ?imm⟩
  case gp => rw [State.operand_gp, Lane.readGp_of_getElem? hn, BitVec.toNat_ofNat, Nat.mod_eq_of_lt hv]
  case xpos => rw [State.operand_xpos, zextCoordinate_of_lt hx, BitVec.toNat_ofNat, Nat.mod_eq_of_lt hx]
  case ypos => rw [State.operand_ypos, zextCoordinate_of_lt hy, BitVec.toNat_ofNat, Nat.mod_eq_of_lt hy]
  case frame => rw [State.operand_frame, BitVec.toNat_ofNat, Nat.mod_eq_of_lt hf]
  case imm => rw [State.operand_imm, BitVec.toNat_ofNat, Nat.mod_eq_of_lt hi]

/-! ### Packing -/

/-- A field that lies within the low bits of a value is a field of those bits. -/
theorem bitField_bitField_zero (w : Nat) {lo len n : Nat} (h : lo + len ≤ n) :
    bitField (bitField w 0 n) lo len = bitField w lo len := by
  refine Nat.eq_of_testBit_eq fun j => ?_
  simp only [testBit_bitField, Nat.zero_add]
  by_cases hj : j < len
  · have hlo : lo + j < n := by omega
    simp [hlo]
  · simp [hj]

/-- Each of the three slices of a packed result is the same slice of the result (R198). -/
theorem channelAt_pack {c w slot : Nat} (v : Word w) (h : slot < 3) :
    channelAt c slot (pack c v) = bitField v.toNat (c * slot) c := by
  have hfit : c * slot + c ≤ 3 * c := by
    calc c * slot + c = (slot + 1) * c := by ring
      _ ≤ 3 * c := Nat.mul_le_mul_right c h
  exact bitField_bitField_zero v.toNat hfit

/-- Settles O22: the canonical channels of a packed result are its slices 0, 1 and 2. -/
theorem packKeepsTheLowBits : Obligations.PackKeepsTheLowBits := by
  unfold Obligations.PackKeepsTheLowBits
  intro c w v
  refine ⟨bitField_zero .., ?red, ?green, ?blue⟩
  case red =>
    calc RgbOrder.rgb.red c (pack c v) = bitField v.toNat (c * 0) c := channelAt_pack v (by decide)
      _ = v.toNat % 2 ^ c := by rw [Nat.mul_zero, bitField_zero]
  case green =>
    calc RgbOrder.rgb.green c (pack c v) = bitField v.toNat (c * 1) c := channelAt_pack v (by decide)
      _ = v.toNat / 2 ^ c % 2 ^ c := by rw [Nat.mul_one, bitField]
  case blue =>
    calc RgbOrder.rgb.blue c (pack c v) = bitField v.toNat (c * 2) c := channelAt_pack v (by decide)
      _ = v.toNat / 2 ^ (2 * c) % 2 ^ c := by rw [Nat.mul_comm c 2, bitField]

end Sys2Proof

/-! PROOFS. The logic instructions (42_alu_logic.md R220 to R223): each is one bitwise operation in all lanes, committed in
every lane, and its words hold its opcode. -/

namespace Sys2Proof

/-- A word that decodes to an instruction holds that instruction's number in its opcode field (R111, R114). -/
theorem Instr.hasOpcode (i : Instr) : Machine.HasOpcode i i.opcode := by
  intro f w h
  obtain ⟨-, hfields⟩ := decodeWord_eq_ok_iff.mp h
  obtain ⟨-, -, -, hi⟩ := decodeFields_eq_ok_iff.mp hfields
  obtain ⟨⟨hop, -⟩, -⟩ := instrOf_eq_some_iff.mp hi
  exact hop.symm

namespace Machine

section exec
variable (l r : Sel) (d : Dest) (imm : Nat) (s : State)

theorem exec_not : exec (.not l r d imm) s = .next (s.runLanes (fun a _ => ~~~a) l r d imm) := rfl

theorem exec_and : exec (.and l r d imm) s = .next (s.runLanes (fun a b => a &&& b) l r d imm) := rfl

/-- An operation on the left operand alone is the same in all lanes whatever the right one is. -/
theorem State.runLanes_left_only (op : Word s.cfg.regWidth → Word s.cfg.regWidth) (r' : Sel) :
    s.runLanes (fun a _ => op a) l r d imm = s.runLanes (fun a _ => op a) l r' d imm := rfl

end exec

end Machine

open Machine

/-- Settles O10: the complement of the left operand in every lane, which no right operand enters. -/
theorem notCommitsTheComplement : Obligations.NotCommitsTheComplement := by
  unfold Obligations.NotCommitsTheComplement
  intro l r d imm s
  refine ⟨_, _, exec_not .., s.runLanes_commits .., fun ln => BitVec.toNat_not, fun r' => ?right, Instr.hasOpcode _⟩
  case right => rw [exec_not, s.runLanes_left_only l r' d imm _ r]

/-- Settles O11: bit `i` of the result is the conjunction of the operands' bits `i`. -/
theorem andCommitsTheCommonBits : Obligations.AndCommitsTheCommonBits := by
  unfold Obligations.AndCommitsTheCommonBits
  intro l r d imm s
  refine ⟨_, _, exec_and .., s.runLanes_commits .., fun ln i _ => ?bit, Instr.hasOpcode _⟩
  case bit => rw [BitVec.getLsbD_and, Bool.and_eq_true]

/-- Settles O12: bit `i` of the result is the disjunction of the operands' bits `i`. -/
theorem orCommitsTheBitsOfEither : Obligations.OrCommitsTheBitsOfEither := by
  unfold Obligations.OrCommitsTheBitsOfEither
  intro l r d imm s
  refine ⟨_, _, exec_or .., s.runLanes_commits .., fun ln i _ => ?bit, Instr.hasOpcode _⟩
  case bit => rw [BitVec.getLsbD_or, Bool.or_eq_true]

/-- Settles O13: bit `i` of the result is 1 exactly where the operands' bits `i` differ. -/
theorem xorCommitsTheDifferingBits : Obligations.XorCommitsTheDifferingBits := by
  unfold Obligations.XorCommitsTheDifferingBits
  intro l r d imm s
  refine ⟨_, _, exec_xor .., s.runLanes_commits .., fun ln i _ => ?bit, Instr.hasOpcode _⟩
  case bit => rw [BitVec.getLsbD_xor, Bool.xor_iff_ne]

end Sys2Proof

/-! PROOFS. The arithmetic instructions (43_alu_arith.md R240 to R242): the sum and the difference modulo `2^W`, and that the
reading of the operands (R265) enters no operation but an ordering comparison, and that only for large operands. -/

namespace Sys2Proof

namespace Machine

/-! ### Sum and difference -/

theorem exec_add (l r : Sel) (d : Dest) (imm : Nat) (s : State) :
    exec (.add l r d imm) s = .next (s.runLanes (fun a b => a + b) l r d imm) := rfl

/-- A difference of words is the difference of their numbers as integers, modulo `2^w`. -/
theorem natCast_toNat_sub {w : Nat} (a b : Word w) : ((a - b).toNat : Int) = (a.toNat - b.toNat : Int) % 2 ^ w := by
  calc ((a - b).toNat : Int) = (2 ^ w - b.toNat + a.toNat : Int) % 2 ^ w := by simp [BitVec.toNat_sub, b.isLt.le]
    _ = (2 ^ w + (a.toNat - b.toNat) : Int) % 2 ^ w := by rw [sub_add_eq_add_sub, add_sub_assoc]
    _ = (a.toNat - b.toNat : Int) % 2 ^ w := Int.add_emod_left ..

/-! ### Where `CMP_SIGNED` enters -/

/-- The operation of a mnemonic on words of `w` bits, under either reading of the operands. -/
def operation (m : Mnemonic) (signed : Bool) {w : Nat} (a b : Word w) : Word w :=
  match m with
  | .not => ~~~a
  | .and => a &&& b
  | .or  => a ||| b
  | .xor => a ^^^ b
  | .add => a + b
  | .sub => a - b
  | .eq  => boolWord w (a == b)
  | .gt  => boolWord w (decide (cmpValue signed a > cmpValue signed b))
  | .gte => boolWord w (decide (cmpValue signed a ≥ cmpValue signed b))
  | .lt  => boolWord w (decide (cmpValue signed a < cmpValue signed b))
  | .lte => boolWord w (decide (cmpValue signed a ≤ cmpValue signed b))

/-- What `exec` does, in all lanes, for an instruction built from a mnemonic (R294). -/
theorem exec_build (m : Mnemonic) (l r : Sel) (d : Dest) (v : Nat) (s : State) :
    exec (m.build l r d v) s = .next (s.runLanes (operation m s.cfg.cmpSigned) l r d v) := by
  cases m <;> rfl

/-- Below `2^(w-1)` both readings of a word give its number (R265). -/
theorem cmpValue_eq_toNat {w : Nat} {a : Word w} (h : a.toNat < 2 ^ (w - 1)) (signed : Bool) :
    cmpValue signed a = (a.toNat : Int) := by
  cases signed with
  | false => rfl
  | true =>
    refine BitVec.toInt_eq_toNat_of_lt ?_
    cases w with
    | zero => simp [BitVec.of_length_zero]
    | succ w =>
      rw [Nat.add_sub_cancel] at h
      rw [Nat.pow_succ]
      omega

/-- The reading enters an ordering comparison alone, and not that of two words below `2^(w-1)` (R242, R265). -/
theorem operation_signed_irrelevant {m : Mnemonic} {w : Nat} {a b : Word w}
    (h : m ∈ [.gt, .gte, .lt, .lte] → a.toNat < 2 ^ (w - 1) ∧ b.toNat < 2 ^ (w - 1)) (signed signed' : Bool) :
    operation m signed a b = operation m signed' a b := by
  cases m with
  | gt | gte | lt | lte =>
    obtain ⟨ha, hb⟩ := h (by decide)
    simp only [operation, cmpValue_eq_toNat ha, cmpValue_eq_toNat hb]
  | _ => rfl

/-- Operations that agree on the operands of every lane of a state do the same to it. -/
theorem State.runLanes_congr {s : State} {op op' : Word s.cfg.regWidth → Word s.cfg.regWidth → Word s.cfg.regWidth}
    {l r : Sel} {v : Nat}
    (h : ∀ ln ∈ s.lanes, op (s.operand l v ln) (s.operand r v ln) = op' (s.operand l v ln) (s.operand r v ln)) (d : Dest) :
    s.runLanes op l r d v = s.runLanes op' l r d v := by
  simp only [State.runLanes, State.mk.injEq, true_and, and_true]
  exact List.map_congr_left fun ln hln => by rw [h ln hln]

/-- The state under the other value of `CMP_SIGNED` (R15). -/
def State.withCmpSigned (s : State) (b : Bool) : State := { s with cfg := { s.cfg with cmpSigned := b } }

/-- One operation in all lanes does not look at `CMP_SIGNED`. -/
theorem State.runLanes_withCmpSigned (s : State) (b : Bool)
    (op : Word s.cfg.regWidth → Word s.cfg.regWidth → Word s.cfg.regWidth) (l r : Sel) (d : Dest) (v : Nat) :
    (s.withCmpSigned b).runLanes op l r d v = (s.runLanes op l r d v).withCmpSigned b := rfl

end Machine

open Machine

/-- Settles O14: the sum of the operands in every lane. -/
theorem addCommitsTheSum : Obligations.AddCommitsTheSum := by
  unfold Obligations.AddCommitsTheSum
  intro l r d imm s
  exact ⟨_, _, exec_add .., s.runLanes_commits .., fun _ => BitVec.toNat_add .., Instr.hasOpcode _⟩

/-- Settles O15: the difference of the operands in every lane, a remainder of integers. -/
theorem subCommitsTheDifference : Obligations.SubCommitsTheDifference := by
  unfold Obligations.SubCommitsTheDifference
  intro l r d imm s
  exact ⟨_, _, exec_sub .., s.runLanes_commits .., fun _ => natCast_toNat_sub .., Instr.hasOpcode _⟩

/-- Settles O25: the mnemonic's operation gives every lane the same result under both readings, and nothing else of the
instruction looks at `CMP_SIGNED`. -/
theorem signednessMattersOnlyToLargeOrderings : Obligations.SignednessMattersOnlyToLargeOrderings := by
  unfold Obligations.SignednessMattersOnlyToLargeOrderings
  intro m l r d v s b hsmall
  have hsame : s.runLanes (operation m b) l r d v = s.runLanes (operation m s.cfg.cmpSigned) l r d v :=
    State.runLanes_congr (fun ln hln => operation_signed_irrelevant (fun hm => hsmall hm ln hln) _ _) d
  refine ⟨_, exec_build m l r d v s, ?_⟩
  calc exec (m.build l r d v) (s.withCmpSigned b)
    _ = .next ((s.withCmpSigned b).runLanes (operation m b) l r d v) := exec_build ..
    _ = .next ((s.runLanes (operation m b) l r d v).withCmpSigned b) := congrArg _ (s.runLanes_withCmpSigned ..)
    _ = .next ((s.runLanes (operation m s.cfg.cmpSigned) l r d v).withCmpSigned b) := by rw [hsame]

end Sys2Proof

/-! PROOFS. The comparison instructions (44_alu_compare.md R260 to R266): the value each commits under either reading of its
operands, that none has a word without `EXT_CMP`, and that the narrower variant runs as the canonical one does. -/

namespace Sys2Proof

/-! ### The comparison set in the encoding -/

/-- Without `EXT_CMP` no word decodes to a comparison (R114, R118). -/
theorem isCompare_eq_false_of_decodeWord {f : Format} {w : Nat} {i : Instr} (hset : f.extCmp = false)
    (h : decodeWord f w = .ok i) : i.isCompare = false := by
  obtain ⟨hwf, -⟩ := decodeWord_eq_ok_iff_encodeWord.mp h
  obtain ⟨-, -, -, -, hcompare⟩ := Instr.wf_iff.mp hwf
  simpa [hset] using hcompare

theorem Instr.needsExtCmp {i : Instr} (h : i.isCompare = true) : Machine.NeedsExtCmp i := by
  intro f w hset hdecode
  rw [isCompare_eq_false_of_decodeWord hset hdecode] at h
  cases h

/-- The format with the comparison set (R13). -/
def Format.withExtCmp (f : Format) : Format := { f with extCmp := true }

/-- A word that decodes is the same instruction in the format with the comparison set (R266). -/
theorem decodeWord_withExtCmp {f : Format} {w : Nat} {i : Instr} (h : decodeWord f w = .ok i) :
    decodeWord f.withExtCmp w = .ok i := by
  rw [decodeWord_eq_ok_iff_encodeWord] at h ⊢
  obtain ⟨hwf, hw⟩ := h
  obtain ⟨hl, hr, hd, himm, -⟩ := Instr.wf_iff.mp hwf
  exact ⟨Instr.wf_iff.mpr ⟨hl, hr, hd, himm, rfl⟩, hw⟩

/-! ### The comparison set in the configuration's checks -/

/-- The configuration with the comparison set (R13). -/
def Config.withExtCmp (c : Config) : Config := { c with extCmp := true }

/-- A program that passes its checks passes them with the comparison set (R387): every word of it still decodes. -/
theorem programErrors_withExtCmp {c : Config} (hg : c.gOk = true) (h : programErrors c = []) :
    programErrors c.withExtCmp = [] := by
  obtain ⟨hsize, hvalid⟩ := (programErrors_eq_nil hg).mp h
  obtain ⟨-, -, -, hbits⟩ := (Config.programSizeOk_iff hg).mp hsize
  refine (programErrors_eq_nil (c := c.withExtCmp) hg).mpr ⟨hsize, fun w hw => ?_⟩
  obtain ⟨i, hi⟩ := validFields_iff.mp (hvalid w hw)
  have hdecode : decodeWord c.format w = .ok i := decodeWord_eq_ok_iff.mpr ⟨hbits w hw, hi⟩
  obtain ⟨-, hi'⟩ := decodeWord_eq_ok_iff.mp (decodeWord_withExtCmp hdecode)
  exact validFields_iff.mpr ⟨i, hi'⟩

/-- No check but the program's looks at `EXT_CMP`. -/
theorem configErrors_withExtCmp {c : Config} (h : configErrors c = []) : configErrors c.withExtCmp = [] := by
  obtain ⟨hh, hv, hparam, hprog, hrest⟩ := configErrors_eq_nil.mp h
  have hprog' := programErrors_withExtCmp (gOk_of_parameterErrors_eq_nil hparam) hprog
  exact configErrors_eq_nil.mpr ⟨hh, hv, hparam, hprog', hrest⟩

namespace Machine

/-! ### The three ways a step goes on -/

section step
variable {s : State} (hok : configErrors s.cfg = [])
include hok

theorem step_of_rst (hrst : s.rst = true) : step s = .next s.resetEdge := by
  simp [step, hok, hrst]

theorem step_of_no_processor (hrst : s.rst = false) (hpp : s.cfg.pixelProcessor = false) :
    step s = .next (s.clockEdge s) := by
  simp [step, hok, hrst, hpp]

theorem step_of_fetch {i : Instr} {c : State} (hrst : s.rst = false) (hpp : s.cfg.pixelProcessor = true)
    (hfetch : s.fetch = some i) (hexec : exec i s = .next c) : step s = .next (s.clockEdge c) := by
  simp [step, hok, hrst, hpp, hfetch, hexec]

end step

/-! ### The comparison set in the step -/

/-- The state of the canonical variant with the same registers (R13). -/
def State.withExtCmp (s : State) : State := { s with cfg := s.cfg.withExtCmp }

theorem State.fetch_withExtCmp {s : State} {i : Instr} (h : s.fetch = some i) : s.withExtCmp.fetch = some i := by
  obtain ⟨w, hw, hdecode⟩ := fetch_eq_some.mp h
  have hdecode' : decodeWord s.cfg.format.withExtCmp w = .ok i := decodeWord_withExtCmp hdecode
  exact fetch_eq_some.mpr ⟨w, hw, hdecode'⟩

/-- No instruction's meaning looks at `EXT_CMP` (R266). -/
theorem exec_withExtCmp {i : Instr} {s c : State} (h : exec i s = .next c) :
    exec i s.withExtCmp = .next c.withExtCmp := by
  have hlanes : ∃ op, exec i s = .next (s.runLanes op i.left i.right i.dest i.immediate) ∧
      exec i s.withExtCmp = .next (s.runLanes op i.left i.right i.dest i.immediate).withExtCmp := by
    cases i <;> exact ⟨_, rfl, rfl⟩
  obtain ⟨op, hnarrow, hwide⟩ := hlanes
  rw [hwide, Host.Outcome.next.inj (h.symm.trans hnarrow)]

theorem State.resetEdge_withExtCmp (s : State) : s.withExtCmp.resetEdge = s.resetEdge.withExtCmp := rfl

/-- No register's next value looks at `EXT_CMP`. -/
theorem State.clockEdge_withExtCmp (s c : State) : s.withExtCmp.clockEdge c.withExtCmp = (s.clockEdge c).withExtCmp := rfl

/-- A step that goes on is the same step with the comparison set (R266). -/
theorem step_withExtCmp {s t : State} (h : step s = .next t) : step s.withExtCmp = .next t.withExtCmp := by
  obtain ⟨hok, hcases⟩ := step_next_cases h
  have hok' : configErrors s.withExtCmp.cfg = [] := configErrors_withExtCmp hok
  obtain ⟨hrst, rfl⟩ | ⟨hrst, hpp, rfl⟩ | ⟨hrst, hpp, i, op, hfetch, hexec, rfl⟩ := hcases
  · rw [step_of_rst hok' hrst, s.resetEdge_withExtCmp]
  · rw [step_of_no_processor hok' hrst hpp, s.clockEdge_withExtCmp]
  · rw [step_of_fetch hok' hrst hpp (State.fetch_withExtCmp hfetch) (exec_withExtCmp hexec), s.clockEdge_withExtCmp]

/-! ### The value of a comparison -/

section boolWord
variable {w : Nat} {signed : Bool}

theorem boolWord_beq (a b : Word w) : boolWord w (a == b) = if a.toNat = b.toNat then 1#w else 0#w := by
  simp only [boolWord, beq_iff_eq, BitVec.toNat_inj]

/-- Read as signed, words are ordered by their two's complement (R265). -/
theorem cmpValue_lt_of_signed (h : signed = true) (a b : Word w) :
    cmpValue signed a < cmpValue signed b ↔ a.toInt < b.toInt := by
  rw [h]
  rfl

/-- Read as unsigned, words are ordered by their numbers (R265). -/
theorem cmpValue_lt_of_unsigned (h : signed = false) (a b : Word w) :
    cmpValue signed a < cmpValue signed b ↔ a.toNat < b.toNat := by
  rw [h]
  exact Int.ofNat_lt

/-- The value of a strict comparison, where `p` says what the order of the readings is. -/
theorem boolWord_lt {a b : Word w} {p : Prop} [Decidable p] (hp : cmpValue signed a < cmpValue signed b ↔ p) :
    boolWord w (decide (cmpValue signed a < cmpValue signed b)) = if p then 1#w else 0#w := by
  simp only [boolWord, hp, decide_eq_true_eq]

/-- The value of a non-strict comparison is 0 exactly where the strict one of the exchanged operands holds. -/
theorem boolWord_le {a b : Word w} {p : Prop} [Decidable p] (hp : cmpValue signed b < cmpValue signed a ↔ p) :
    boolWord w (decide (cmpValue signed a ≤ cmpValue signed b)) = if p then 0#w else 1#w := by
  simp only [boolWord, ← not_lt, hp, decide_eq_true_eq, ite_not]

end boolWord

end Machine

open Machine

/-- Settles O16: 1 exactly where the operands are the same number. -/
theorem eqCommitsTheEquality : Obligations.EqCommitsTheEquality := by
  unfold Obligations.EqCommitsTheEquality
  intro l r d imm s
  exact ⟨_, _, exec_build .eq l r d imm s, s.runLanes_commits .., fun _ => boolWord_beq ..,
    Instr.hasOpcode _, Instr.needsExtCmp rfl⟩

/-- Settles O17: 1 exactly where the right operand is below the left one. -/
theorem gtCommitsTheOrder : Obligations.GtCommitsTheOrder := by
  unfold Obligations.GtCommitsTheOrder
  intro l r d imm s
  exact ⟨_, _, exec_build .gt l r d imm s, s.runLanes_commits ..,
    fun hs _ => boolWord_lt (cmpValue_lt_of_signed hs ..), fun hu _ => boolWord_lt (cmpValue_lt_of_unsigned hu ..),
    Instr.hasOpcode _, Instr.needsExtCmp rfl⟩

/-- Settles O18: 0 exactly where the left operand is below the right one. -/
theorem gteCommitsTheOrder : Obligations.GteCommitsTheOrder := by
  unfold Obligations.GteCommitsTheOrder
  intro l r d imm s
  exact ⟨_, _, exec_build .gte l r d imm s, s.runLanes_commits ..,
    fun hs _ => boolWord_le (cmpValue_lt_of_signed hs ..), fun hu _ => boolWord_le (cmpValue_lt_of_unsigned hu ..),
    Instr.hasOpcode _, Instr.needsExtCmp rfl⟩

/-- Settles O19: 1 exactly where the left operand is below the right one. -/
theorem ltCommitsTheOrder : Obligations.LtCommitsTheOrder := by
  unfold Obligations.LtCommitsTheOrder
  intro l r d imm s
  exact ⟨_, _, exec_build .lt l r d imm s, s.runLanes_commits ..,
    fun hs _ => boolWord_lt (cmpValue_lt_of_signed hs ..), fun hu _ => boolWord_lt (cmpValue_lt_of_unsigned hu ..),
    Instr.hasOpcode _, Instr.needsExtCmp rfl⟩

/-- Settles O20: 0 exactly where the right operand is below the left one. -/
theorem lteCommitsTheOrder : Obligations.LteCommitsTheOrder := by
  unfold Obligations.LteCommitsTheOrder
  intro l r d imm s
  exact ⟨_, _, exec_build .lte l r d imm s, s.runLanes_commits ..,
    fun hs _ => boolWord_le (cmpValue_lt_of_signed hs ..), fun hu _ => boolWord_le (cmpValue_lt_of_unsigned hu ..),
    Instr.hasOpcode _, Instr.needsExtCmp rfl⟩

/-- Settles O26: a word that decodes without the comparison set is no comparison, and neither the decoder nor the step
answers otherwise with the set. -/
theorem narrowerVariantIsASubset : Obligations.NarrowerVariantIsASubset := by
  unfold Obligations.NarrowerVariantIsASubset
  refine ⟨fun f w i hset h => ⟨?opcode, decodeWord_withExtCmp h⟩, fun s t _ h => step_withExtCmp h⟩
  case opcode =>
    have hcompare : i.isCompare = false := isCompare_eq_false_of_decodeWord hset h
    rw [Instr.isCompare_eq, decide_eq_false_iff_not] at hcompare
    rw [i.hasOpcode f w h]
    exact Nat.le_of_lt_succ (Nat.lt_of_not_le hcompare)

end Sys2Proof

/-! PROOFS. The Pixel Processor's sequencer (45_pixel_processor.md R292 to R313, R320, R322): its signals, the next value of
each register, what a tick is to each lane, and that under the reference consumer the lanes follow the raster. -/

namespace Sys2Proof

theorem Config.n_dvd_width {c : Config} (h : configErrors c = []) : c.n ∣ c.width := by
  obtain ⟨-, -, -, -, hs, -⟩ := configErrors_eq_nil.mp h
  exact Nat.dvd_of_mod_eq_zero (strideErrors_eq_nil.mp hs)

/-- No frame begins with a visible line (R386). -/
theorem Config.vPrescan_pos {c : Config} (h : configErrors c = []) : 0 < c.res.v.prescan := by
  obtain ⟨-, hv, -⟩ := configErrors_eq_nil.mp h
  exact Nat.add_pos_left (timingErrors_eq_nil.mp hv).1 _

/-- A batch has time to run the program (R387). -/
theorem Config.p_le_n {c : Config} (h : configErrors c = []) : c.p ≤ c.n := by
  obtain ⟨-, -, hparam, hprog, -⟩ := configErrors_eq_nil.mp h
  have hg := gOk_of_parameterErrors_eq_nil hparam
  obtain ⟨-, hpn, -⟩ := (Config.programSizeOk_iff hg).mp ((programErrors_eq_nil hg).mp hprog).1
  exact hpn

theorem Config.n_pos {c : Config} (h : configErrors c = []) : 0 < c.n := (Config.p_pos h).trans_le (Config.p_le_n h)

namespace Machine

/-! ### The sequencer's signals -/

section signals
variable {s : State}

theorem State.resultReady_iff : s.resultReady = true ↔ s.pc + 1 = s.cfg.p := beq_iff_eq

theorem State.effAdv_iff : s.effAdv = true ↔ s.adv = true ∧ s.active = true := by
  rw [State.effAdv, Bool.and_eq_true]

theorem State.effAdv_of_active (h : s.active = true) : s.effAdv = s.adv := by
  rw [State.effAdv, h, Bool.and_true]

theorem State.effAdv_of_not_active (h : s.active = false) : s.effAdv = false := by
  rw [State.effAdv, h, Bool.and_false]

theorem State.adv_of_request {b : Bool} (h : s.input.adv = .request b) : s.adv = b := by
  rw [State.adv, h]

/-- The reference consumer's request (R320). -/
theorem State.adv_iff_of_reference (h : s.input.adv = .reference) :
    s.adv = true ↔ s.active = true ∧ s.resultReady = true ∧ s.xPos % s.cfg.n = 0 := by
  simp only [State.adv, h, State.referenceAdv, Bool.and_eq_true, beq_iff_eq, and_assoc]

theorem State.endOfLine_iff :
    s.endOfLine = true ↔ ∃ ln, s.lanes[s.cfg.n - 1]? = some ln ∧ ln.xCoord + 1 = s.cfg.width := by
  unfold State.endOfLine
  cases s.lanes[s.cfg.n - 1]? <;> simp

/-- A frame pulse is an active tick (R311). -/
theorem State.active_of_newFrame (hok : configErrors s.cfg = []) (h : s.newFrame = true) : s.active = true := by
  obtain ⟨hscan, hline⟩ := State.newFrame_iff.mp h
  have hw := Config.width_pos hok
  have hh := Config.height_pos hok
  refine State.active_iff.mpr ⟨State.hActive_iff.mpr ?_, State.vActive_iff.mpr ?_⟩ <;> omega

theorem State.newFrame_of_not_active (hok : configErrors s.cfg = []) (h : s.active = false) : s.newFrame = false := by
  rw [← Bool.not_eq_true]
  intro hnf
  rw [State.active_of_newFrame hok hnf] at h
  cases h

end signals

/-! ### The sequencer's registers: one equation for each case of its rules -/

section next
variable {s : State}

theorem State.nextPc_of_newFrame (h : s.newFrame = true) : s.nextPc = 0 := if_pos h

theorem State.nextPc_of_effAdv (hnf : s.newFrame = false) (ha : s.active = true) (he : s.effAdv = true) :
    s.nextPc = 0 := by
  simp [State.nextPc, hnf, ha, he]

/-- Without an advance the program goes on to its last instruction and stays there (R307). -/
theorem State.nextPc_of_not_effAdv (hnf : s.newFrame = false) (ha : s.active = true) (he : s.effAdv = false) :
    s.nextPc = if s.pc + 1 = s.cfg.p then s.pc else s.pc + 1 := by
  simp [State.nextPc, hnf, ha, he, State.resultReady]

theorem State.nextPc_of_not_active (hnf : s.newFrame = false) (ha : s.active = false) : s.nextPc = s.pc := by
  simp [State.nextPc, hnf, ha]

theorem State.nextX_of_reset (h : s.newFrame = true ∨ s.newLine = true ∧ s.effAdv = true) (l x : Nat) :
    s.nextX l x = l := by
  simp [State.nextX, h]

theorem State.nextX_of_effAdv (hnf : s.newFrame = false) (hnl : s.newLine = false) (he : s.effAdv = true) (l x : Nat) :
    s.nextX l x = (x + s.cfg.n) % s.cfg.width := by
  simp [State.nextX, hnf, hnl, he]

theorem State.nextX_of_not_effAdv (hnf : s.newFrame = false) (he : s.effAdv = false) (l x : Nat) :
    s.nextX l x = x := by
  simp [State.nextX, hnf, he]

theorem State.clearsGp_iff : s.clearsGp = true ↔ s.cfg.gpFrameReset = true ∧ s.newFrame = true := by
  rw [State.clearsGp, Bool.and_eq_true]

theorem State.nextY_of_newFrame (h : s.newFrame = true) : s.nextY = 0 := if_pos h

theorem State.nextY_of_endOfLine (hnf : s.newFrame = false) (he : s.effAdv = true) (hl : s.endOfLine = true) :
    s.nextY = (s.yCoord + 1) % s.cfg.height := by
  simp [State.nextY, hnf, he, hl]

theorem State.nextY_of_not_endOfLine (hnf : s.newFrame = false) (h : s.effAdv = false ∨ s.endOfLine = false) :
    s.nextY = s.yCoord := by
  rcases h with h | h <;> simp [State.nextY, hnf, h]

end next

/-! ### A tick of the Pixel Processor -/

/-- What an instruction does, in all lanes, by its mnemonic's operation on its fields (R294). -/
theorem exec_eq_runLanes (i : Instr) (s : State) : exec i s =
    .next (s.runLanes (operation i.mnemonic s.cfg.cmpSigned) i.left i.right i.dest i.immediate) := by
  cases i <;> rfl

/-- Lane `l` after the tick that runs `i`: the commit of its result, and then the edge (R294, R308, R312). -/
def State.nextLane (s : State) (i : Instr) (l : Nat) (ln : Lane) : Lane :=
  s.stepLane l (ln.commit s.cfg.colorDepth i.dest
    (operation i.mnemonic s.cfg.cmpSigned (s.operand i.left i.immediate ln) (s.operand i.right i.immediate ln)))

theorem State.nextLane_xCoord (s : State) (i : Instr) (l : Nat) (ln : Lane) :
    (s.nextLane i l ln).xCoord = s.nextX l ln.xCoord := by
  rw [State.nextLane, State.stepLane_xCoord, Lane.commit_xCoord]

/-- The state with other lanes. -/
def State.withLanes (s : State) (lanes : List Lane) : State := { s with lanes := lanes }

theorem State.withLanes_cfg (s : State) (lanes : List Lane) : (s.withLanes lanes).cfg = s.cfg := rfl

/-- The fetch does not look at the lanes (R292). -/
theorem State.fetch_withLanes (s : State) (lanes : List Lane) : (s.withLanes lanes).fetch = s.fetch := rfl

/-- A lane's next registers do not look at the lanes beside it (R313). -/
theorem State.nextLane_withLanes (s : State) (lanes : List Lane) : (s.withLanes lanes).nextLane = s.nextLane := rfl

/-- A tick of the Pixel Processor from `s` to `t` that runs `i`: what each of its registers becomes. -/
structure SequencerStep (s : State) (i : Instr) (t : State) : Prop where
  /-- R307. -/
  pc    : t.pc = s.nextPc
  /-- R309. -/
  y     : t.yCoord = s.nextY
  /-- R310. -/
  frame : t.frameCounter = s.nextFrame
  /-- R294, R308, R312. -/
  lanes : t.lanes = s.lanes.mapIdx (s.nextLane i)

theorem clockEdge_sequencerStep {s : State} (hpp : s.cfg.pixelProcessor = true) (i : Instr) :
    SequencerStep s i (s.clockEdge
      (s.runLanes (operation i.mnemonic s.cfg.cmpSigned) i.left i.right i.dest i.immediate)) where
  pc := by rw [State.clockEdge_pc, if_pos hpp]
  y := by rw [State.clockEdge_yCoord, if_pos hpp]
  frame := by rw [State.clockEdge_frameCounter, if_pos hpp]
  lanes := by
    refine List.ext_getElem? fun l => ?_
    rw [State.clockEdge_lanes, if_pos hpp, List.getElem?_mapIdx, State.runLanes_getElem?, Option.map_map,
      List.getElem?_mapIdx]
    rfl

section sequencerStep
variable {s t : State} {i : Instr} (h : SequencerStep s i t)
include h

theorem SequencerStep.laneCount : t.lanes.length = s.lanes.length := by
  rw [h.lanes, List.length_mapIdx]

theorem SequencerStep.lane {l : Nat} {ln : Lane} (hln : s.lanes[l]? = some ln) :
    t.lanes[l]? = some (s.nextLane i l ln) := by
  rw [h.lanes, List.getElem?_mapIdx, hln, Option.map_some]

/-- Where each lane after the tick has its coordinate from. -/
theorem SequencerStep.exists_lane {l : Nat} {ln' : Lane} (hln' : t.lanes[l]? = some ln') :
    ∃ ln, s.lanes[l]? = some ln ∧ ln'.xCoord = s.nextX l ln.xCoord := by
  rw [h.lanes, List.getElem?_mapIdx, Option.map_eq_some_iff] at hln'
  obtain ⟨ln, hln, rfl⟩ := hln'
  exact ⟨ln, hln, s.nextLane_xCoord i l ln⟩

end sequencerStep

/-- The Pixel Processor answers every tick by running the instruction at `pc` (R292, R380). -/
theorem State.PpTicks.exists_step {s : State} (h : s.PpTicks) :
    ∃ i t, s.fetch = some i ∧ step s = .next t ∧ SequencerStep s i t := by
  obtain ⟨⟨hok, hrst, hpc⟩, hpp⟩ := h
  obtain ⟨w, i, hw, hi⟩ := Config.exists_decodeWord hok (hpc hpp)
  have hfetch : s.fetch = some i := fetch_eq_some.mpr ⟨w, hw, hi⟩
  exact ⟨i, _, hfetch, step_of_fetch hok hrst hpp hfetch (exec_eq_runLanes i s), clockEdge_sequencerStep hpp i⟩

/-! ### Counting ticks modulo a period -/

section period
variable {q m : Nat}

/-- A period ends with its last remainder. -/
theorem mod_add_one_eq_iff_dvd (hm : 0 < m) : q % m + 1 = m ↔ m ∣ q + 1 := by
  have hlt := Nat.mod_lt q hm
  have hsum : q + 1 = m * (q / m) + (q % m + 1) := by rw [← Nat.add_assoc, Nat.div_add_mod]
  rw [hsum, Nat.dvd_add_right (Nat.dvd_mul_right m _)]
  exact ⟨fun h => h.symm ▸ dvd_rfl, fun h => Nat.le_antisymm hlt (Nat.le_of_dvd (Nat.succ_pos _) h)⟩

theorem add_one_mod_of_not_dvd (hm : 0 < m) (h : ¬ m ∣ q + 1) : (q + 1) % m = q % m + 1 := by
  have hne : q % m + 1 ≠ m := fun he => h ((mod_add_one_eq_iff_dvd hm).mp he)
  have hlt := Nat.mod_lt q hm
  rw [← Nat.mod_add_mod, Nat.mod_eq_of_lt (by omega)]

end period

/-! ### The raster's pixels -/

/-- How many visible pixels of the frame are over, on a visible line (R165, R166). -/
def State.scanned (s : State) : Nat := s.yPos * s.cfg.width + s.xPos

section scanned
variable {s : State}

theorem State.xPos_eq : s.xPos = min (s.scanCounter - s.cfg.res.h.prescan) s.cfg.width := clampPos_eq_min ..

theorem State.yPos_eq : s.yPos = min (s.lineCounter - s.cfg.res.v.prescan) s.cfg.height := clampPos_eq_min ..

theorem State.xPos_lt_of_active (h : s.active = true) : s.xPos < s.cfg.width := by
  obtain ⟨hlo, hhi⟩ := State.hActive_iff.mp (State.active_iff.mp h).1
  rw [State.xPos_eq]
  omega

theorem State.yPos_lt_of_active (h : s.active = true) : s.yPos < s.cfg.height := by
  obtain ⟨hlo, hhi⟩ := State.vActive_iff.mp (State.active_iff.mp h).2
  rw [State.yPos_eq]
  omega

theorem State.scanned_div_width (h : s.active = true) : s.scanned / s.cfg.width = s.yPos := by
  have hx := State.xPos_lt_of_active h
  rw [State.scanned, Nat.add_comm, Nat.add_mul_div_right _ _ (Nat.zero_lt_of_lt hx), Nat.div_eq_of_lt hx, Nat.zero_add]

theorem State.scanned_mod_width (h : s.active = true) : s.scanned % s.cfg.width = s.xPos := by
  rw [State.scanned, Nat.mul_add_mod_self_right, Nat.mod_eq_of_lt (State.xPos_lt_of_active h)]

/-- `N` divides `width`, so a batch begins at the same ticks counted in the line and in the frame. -/
theorem State.scanned_mod_n (hok : configErrors s.cfg = []) (h : s.active = true) :
    s.scanned % s.cfg.n = s.xPos % s.cfg.n := by
  rw [← Nat.mod_mod_of_dvd _ (Config.n_dvd_width hok), State.scanned_mod_width h]

/-- The batch of the pixels scanned lies on the line being scanned. -/
theorem State.batchColumn_of_active (hok : configErrors s.cfg = []) (h : s.active = true) {l : Nat} (hl : l < s.cfg.n) :
    (s.scanned / s.cfg.n * s.cfg.n + l) % s.cfg.width = s.xPos / s.cfg.n * s.cfg.n + l := by
  have hfit : s.xPos / s.cfg.n * s.cfg.n + l < s.cfg.width := by
    have hbatch := Nat.div_lt_div_of_lt_of_dvd (Config.n_dvd_width hok) (State.xPos_lt_of_active h)
    calc s.xPos / s.cfg.n * s.cfg.n + l < (s.xPos / s.cfg.n + 1) * s.cfg.n := by
          rw [Nat.add_one_mul]
          exact Nat.add_lt_add_left hl _
      _ ≤ s.cfg.width / s.cfg.n * s.cfg.n := Nat.mul_le_mul_right _ hbatch
      _ = s.cfg.width := Nat.div_mul_cancel (Config.n_dvd_width hok)
  have hrow : s.scanned / s.cfg.n * s.cfg.n = s.yPos * s.cfg.width + s.xPos / s.cfg.n * s.cfg.n := by
    have hmod := State.scanned_mod_n hok h
    have hscanned := Nat.div_add_mod' s.scanned s.cfg.n
    have hx := Nat.div_add_mod' s.xPos s.cfg.n
    have hsum : s.scanned = s.yPos * s.cfg.width + s.xPos := rfl
    omega
  rw [hrow, Nat.add_assoc, Nat.mul_add_mod_self_right, Nat.mod_eq_of_lt hfit]

/-- A line pulse is an active tick at a whole number of lines (R167). -/
theorem State.newLine_iff_dvd_scanned (h : s.active = true) : s.newLine = true ↔ s.cfg.width ∣ s.scanned := by
  obtain ⟨hh, hv⟩ := State.active_iff.mp h
  obtain ⟨hlo, hhi⟩ := State.hActive_iff.mp hh
  rw [State.newLine_iff, Nat.dvd_iff_mod_eq_zero, State.scanned_mod_width h, State.xPos_eq]
  simp only [hv, and_true]
  omega

/-- A frame pulse is the active tick before which no pixel is over (R168). -/
theorem State.newFrame_iff_scanned_eq_zero (h : s.active = true) : s.newFrame = true ↔ s.scanned = 0 := by
  have hx := State.xPos_lt_of_active h
  have hy := State.yPos_lt_of_active h
  have hw : s.cfg.width ≠ 0 := Nat.ne_zero_of_lt hx
  have hpos : s.scanned = 0 ↔ s.xPos = 0 ∧ s.yPos = 0 := by simp [State.scanned, hw, and_comm]
  have hat := State.active_at_iff (s := s) (Nat.zero_lt_of_lt hx) (Nat.zero_lt_of_lt hy)
  rw [State.newFrame_iff, hpos]
  simpa [h] using hat.symm

/-- On a visible line an active tick moves one column, and no other does. -/
theorem State.xPos_add_active (hv : s.vActive = true) :
    s.xPos + (if s.active then 1 else 0) = min (s.scanCounter + 1 - s.cfg.res.h.prescan) s.cfg.width := by
  have hactive : s.active = true ↔ s.cfg.res.h.prescan ≤ s.scanCounter ∧
      s.scanCounter < s.cfg.res.h.prescan + s.cfg.width := by
    rw [State.active_iff, State.hActive_iff, and_iff_left hv]
  rw [State.xPos_eq]
  split
  · next ha =>
    have hin := hactive.mp ha
    omega
  · next ha =>
    have hout := mt hactive.mpr ha
    omega

end scanned

section edge
variable {s t : State} (hs : s.TicksOn) (hstep : step s = .next t) (hv : t.vActive = true)
include hs hstep hv

/-- A visible line that follows a line is the next row: the frame does not begin with one. -/
theorem State.lineCounter_of_wraps (hw : s.scanCounter = s.cfg.res.h.fullscan - 1) :
    t.lineCounter = s.lineCounter + 1 := by
  obtain ⟨hcfg, -, hline, -⟩ := step_timing hs.rst hstep
  have hpre := Config.vPrescan_pos hs.checked
  obtain ⟨hlo, -⟩ := State.vActive_iff.mp hv
  rw [hcfg, hline, State.nextLine_of_wraps hw] at hlo
  rw [hline, State.nextLine_of_wraps hw]
  split at hlo
  · omega
  · next hl => rw [if_neg hl]

/-- Before the first visible line no pixel of it is over. -/
theorem State.vActive_of_scanned_pos (hpos : 0 < t.scanned) : s.vActive = true := by
  obtain ⟨hcfg, hscan, hline, -⟩ := step_timing hs.rst hstep
  by_cases hw : s.scanCounter = s.cfg.res.h.fullscan - 1
  · have hrow := State.lineCounter_of_wraps hs hstep hv hw
    obtain ⟨hlo, hhi⟩ := State.vActive_iff.mp hv
    have hx : t.xPos = 0 := by rw [State.xPos_eq, hscan, State.nextScan_of_wraps hw, Nat.zero_sub, Nat.zero_min]
    rw [State.scanned, hx, Nat.add_zero] at hpos
    have hy : 0 < t.yPos := Nat.pos_of_mul_pos_right hpos
    rw [State.yPos_eq] at hy
    rw [hcfg, hrow] at hlo hhi hy
    exact State.vActive_iff.mpr (by omega)
  · rw [← State.vActive_congr hcfg (hline.trans (State.nextLine_of_not_wraps hw))]
    exact hv

/-- From one visible line to the same or the next, an active tick scans one pixel and no other tick does. -/
theorem State.scanned_next (hvs : s.vActive = true) : t.scanned = s.scanned + if s.active then 1 else 0 := by
  obtain ⟨hcfg, hscan, hline, -⟩ := step_timing hs.rst hstep
  rw [State.scanned, State.scanned, Nat.add_assoc, State.xPos_add_active hvs]
  rw [State.xPos_eq, State.yPos_eq, State.yPos_eq, hcfg]
  by_cases hw : s.scanCounter = s.cfg.res.h.fullscan - 1
  · have hrow := State.lineCounter_of_wraps hs hstep hv hw
    have hend : s.cfg.res.h.fullscan = s.cfg.res.h.prescan + s.cfg.res.h.frontPorch + s.cfg.width := rfl
    have hx : min (s.scanCounter + 1 - s.cfg.res.h.prescan) s.cfg.width = s.cfg.width := by
      have hwidth := Config.width_pos hs.checked
      omega
    have hy : min (s.lineCounter + 1 - s.cfg.res.v.prescan) s.cfg.height =
        min (s.lineCounter - s.cfg.res.v.prescan) s.cfg.height + 1 := by
      obtain ⟨hlo, -⟩ := State.vActive_iff.mp hvs
      obtain ⟨-, hhi⟩ := State.vActive_iff.mp hv
      rw [hcfg, hrow] at hhi
      omega
    rw [hscan, State.nextScan_of_wraps hw, hrow, hx, hy, Nat.add_one_mul, Nat.zero_sub, Nat.zero_min, Nat.add_zero]
  · rw [hscan, State.nextScan_of_not_wraps hw, hline, State.nextLine_of_not_wraps hw]

end edge

/-! ### The lanes and the raster under the reference consumer -/

/-- The sequencer `q` active ticks after the one of the frame pulse: the program has run since the last advance, and the
lanes hold the batch that began there (R322). -/
structure State.HoldsBatch (s : State) (q : Nat) : Prop where
  pc   : s.pc = min (q % s.cfg.n) (s.cfg.p - 1)
  y    : s.yCoord = q / s.cfg.width
  lane : ∀ (l : Nat) (ln : Lane), s.lanes[l]? = some ln → ln.xCoord = (q / s.cfg.n * s.cfg.n + l) % s.cfg.width

/-- On every visible line after the frame pulse, the sequencer is in step with the pixels scanned. -/
def State.FollowsRaster (s : State) : Prop := s.vActive = true → ∀ q, s.scanned = q + 1 → s.HoldsBatch q

/-- An active tick, `q` active ticks after that of the frame pulse, with the sequencer in step and the reference consumer
driving it. -/
structure State.BatchTick (s : State) (q : Nat) : Prop extends s.HoldsBatch q where
  checked   : configErrors s.cfg = []
  laneCount : s.lanes.length = s.cfg.n
  reference : s.input.adv = .reference
  active    : s.active = true
  scanned   : s.scanned = q + 1

theorem SequencerStep.holdsBatch {s t : State} {i : Instr} (h : SequencerStep s i t) (hcfg : t.cfg = s.cfg) {q : Nat}
    (hpc : s.nextPc = min (q % s.cfg.n) (s.cfg.p - 1)) (hy : s.nextY = q / s.cfg.width)
    (hx : ∀ (l : Nat) (ln : Lane), s.lanes[l]? = some ln →
      s.nextX l ln.xCoord = (q / s.cfg.n * s.cfg.n + l) % s.cfg.width) : t.HoldsBatch q where
  pc := by rw [h.pc, hpc, hcfg]
  y := by rw [h.y, hy, hcfg]
  lane l ln' hln' := by
    obtain ⟨ln, hln, hx'⟩ := h.exists_lane hln'
    rw [hx', hx l ln hln, hcfg]

section batch
variable {s : State} {q : Nat} (h : s.BatchTick q)
include h

theorem State.BatchTick.newFrame_eq_false : s.newFrame = false := by
  rw [← Bool.not_eq_true, State.newFrame_iff_scanned_eq_zero h.active, h.scanned]
  exact Nat.succ_ne_zero q

/-- The reference consumer advances exactly where a batch ends: by then the program has reached its last instruction. -/
theorem State.BatchTick.effAdv_iff : s.effAdv = true ↔ s.cfg.n ∣ q + 1 := by
  have hready (hdvd : s.cfg.n ∣ q + 1) : s.pc + 1 = s.cfg.p := by
    have hend := (mod_add_one_eq_iff_dvd (Config.n_pos h.checked)).mpr hdvd
    have hp := Config.p_pos h.checked
    have hpn := Config.p_le_n h.checked
    rw [h.pc]
    omega
  rw [State.effAdv_of_active h.active, State.adv_iff_of_reference h.reference,
    ← State.scanned_mod_n h.checked h.active, h.scanned, State.resultReady_iff, ← Nat.dvd_iff_mod_eq_zero]
  exact ⟨fun ⟨_, _, hdvd⟩ => hdvd, fun hdvd => ⟨h.active, hready hdvd, hdvd⟩⟩

theorem State.BatchTick.effAdv_eq_false (hdvd : ¬ s.cfg.n ∣ q + 1) : s.effAdv = false := by
  rw [← Bool.not_eq_true, h.effAdv_iff]
  exact hdvd

theorem State.BatchTick.nextPc_eq : s.nextPc = min ((q + 1) % s.cfg.n) (s.cfg.p - 1) := by
  by_cases hdvd : s.cfg.n ∣ q + 1
  · rw [State.nextPc_of_effAdv h.newFrame_eq_false h.active (h.effAdv_iff.mpr hdvd), Nat.mod_eq_zero_of_dvd hdvd,
      Nat.zero_min]
  · rw [State.nextPc_of_not_effAdv h.newFrame_eq_false h.active (h.effAdv_eq_false hdvd),
      add_one_mod_of_not_dvd (Config.n_pos h.checked) hdvd, h.pc]
    have hp := Config.p_pos h.checked
    split <;> omega

/-- A lane's coordinate goes on by one batch at each advance, and wraps to the lane's number at the end of a line. -/
theorem State.BatchTick.nextX_eq {l : Nat} (hl : l < s.cfg.n) :
    s.nextX l ((q / s.cfg.n * s.cfg.n + l) % s.cfg.width) = ((q + 1) / s.cfg.n * s.cfg.n + l) % s.cfg.width := by
  by_cases hdvd : s.cfg.n ∣ q + 1
  · have he := h.effAdv_iff.mpr hdvd
    cases hnl : s.newLine with
    | true =>
      have hline : s.cfg.width ∣ q + 1 := h.scanned ▸ (State.newLine_iff_dvd_scanned h.active).mp hnl
      have hlw : l < s.cfg.width := hl.trans_le (Config.n_le_width h.checked)
      rw [State.nextX_of_reset (.inr ⟨hnl, he⟩), Nat.div_mul_cancel hdvd, Nat.add_mod, Nat.mod_eq_zero_of_dvd hline,
        Nat.zero_add, Nat.mod_mod, Nat.mod_eq_of_lt hlw]
    | false =>
      rw [State.nextX_of_effAdv h.newFrame_eq_false hnl he, Nat.mod_add_mod, Nat.succ_div_of_dvd hdvd, Nat.add_one_mul,
        Nat.add_right_comm]
  · rw [State.nextX_of_not_effAdv h.newFrame_eq_false (h.effAdv_eq_false hdvd), Nat.succ_div_of_not_dvd hdvd]

/-- At the end of a batch, lane `N-1` is at the end of a line exactly where the raster is. -/
theorem State.BatchTick.endOfLine_iff (hdvd : s.cfg.n ∣ q + 1) : s.endOfLine = true ↔ s.cfg.width ∣ q + 1 := by
  have hn := Config.n_pos h.checked
  have hlast : q / s.cfg.n * s.cfg.n + (s.cfg.n - 1) = q := by
    have hend := (mod_add_one_eq_iff_dvd hn).mpr hdvd
    have hsum := Nat.div_add_mod' q s.cfg.n
    omega
  obtain ⟨ln, hln⟩ : ∃ ln, s.lanes[s.cfg.n - 1]? = some ln :=
    ⟨_, List.getElem?_eq_getElem (by have := h.laneCount; omega)⟩
  have hx : ln.xCoord = q % s.cfg.width := by rw [h.lane _ ln hln, hlast]
  rw [State.endOfLine_iff, ← mod_add_one_eq_iff_dvd (Config.width_pos h.checked), ← hx]
  simp [hln]

theorem State.BatchTick.nextY_eq : s.nextY = (q + 1) / s.cfg.width := by
  by_cases hline : s.cfg.width ∣ q + 1
  · have hdvd : s.cfg.n ∣ q + 1 := (Config.n_dvd_width h.checked).trans hline
    have hrow : (q + 1) / s.cfg.width < s.cfg.height := by
      rw [← h.scanned, State.scanned_div_width h.active]
      exact State.yPos_lt_of_active h.active
    rw [State.nextY_of_endOfLine h.newFrame_eq_false (h.effAdv_iff.mpr hdvd) ((h.endOfLine_iff hdvd).mpr hline), h.y,
      ← Nat.succ_div_of_dvd hline, Nat.mod_eq_of_lt hrow]
  · rw [Nat.succ_div_of_not_dvd hline, ← h.y]
    refine State.nextY_of_not_endOfLine h.newFrame_eq_false ?_
    by_cases hdvd : s.cfg.n ∣ q + 1
    · exact .inr (Bool.eq_false_iff.mpr (mt (h.endOfLine_iff hdvd).mp hline))
    · exact .inl (h.effAdv_eq_false hdvd)

end batch

/-- The reference consumer drives every coming tick of the running Pixel Processor, whose lanes follow the raster. -/
structure State.ReferenceRun (s : State) : Prop where
  ticksOn   : s.TicksOn
  processor : s.cfg.pixelProcessor = true
  reference : ReferenceOnly s.inputs
  follows   : s.FollowsRaster

theorem ReferenceOnly.noReset {is : List TickInput} (h : ReferenceOnly is) : NoReset is := fun x hx => by rw [h x hx]

/-- Right after reset no visible line is begun: there is nothing to follow (R412). -/
theorem State.resetWith_referenceRun {c : Config} {is : List TickInput} (hok : ValidConfig c)
    (hpp : c.pixelProcessor = true) (href : ReferenceOnly is) : (State.resetWith c is).ReferenceRun where
  ticksOn := ⟨hok.1, State.resetWith_inRange hok is, ReferenceOnly.noReset href⟩
  processor := hpp
  reference := href
  follows := fun hv => by
    have hpre := Config.vPrescan_pos hok.1
    obtain ⟨hlo, -⟩ := State.vActive_iff.mp hv
    exact absurd hlo (Nat.not_le.mpr hpre)

section referenceRun
variable {s t : State} (h : s.ReferenceRun)
include h

theorem State.ReferenceRun.adv_reference : s.input.adv = .reference := by
  have href := h.reference
  unfold State.input
  cases hi : s.inputs with
  | nil => rfl
  | cons x xs =>
    have hx : x = ⟨false, .reference⟩ := href x (by simp [hi])
    rw [List.headD_cons, hx]

theorem State.ReferenceRun.batchTick {q : Nat} (ha : s.active = true) (hq : s.scanned = q + 1) : s.BatchTick q where
  toHoldsBatch := h.follows (State.active_iff.mp ha).2 q hq
  checked := h.ticksOn.checked
  laneCount := h.ticksOn.inRange.laneCount
  reference := h.adv_reference
  active := ha
  scanned := hq

/-- A step of the run is a tick of the Pixel Processor. -/
theorem State.ReferenceRun.exists_sequencerStep (hstep : step s = .next t) : ∃ i, SequencerStep s i t := by
  obtain ⟨i, u, -, hu, hseq⟩ := State.PpTicks.exists_step ⟨h.ticksOn.ticks, h.processor⟩
  obtain rfl : u = t := Host.Outcome.next.inj (hu.symm.trans hstep)
  exact ⟨i, hseq⟩

theorem State.ReferenceRun.lt_n_of_lane {l : Nat} {ln : Lane} (hln : s.lanes[l]? = some ln) : l < s.cfg.n := by
  obtain ⟨hl, -⟩ := List.getElem?_eq_some_iff.mp hln
  exact h.ticksOn.inRange.laneCount ▸ hl

/-- The lanes follow the raster over every tick: outside the window nothing moves, the frame pulse begins a batch, and
from there on each active tick goes on in it or begins the next one. -/
theorem State.ReferenceRun.next_follows (hstep : step s = .next t) : t.FollowsRaster := by
  intro hv q hq
  obtain ⟨i, hseq⟩ := h.exists_sequencerStep hstep
  obtain ⟨hcfg, -⟩ := step_timing h.ticksOn.rst hstep
  have hok := h.ticksOn.checked
  have hvs : s.vActive = true := State.vActive_of_scanned_pos h.ticksOn hstep hv (hq ▸ Nat.succ_pos q)
  have hnext := State.scanned_next h.ticksOn hstep hv hvs
  cases ha : s.active with
  | false =>
    have hnf := State.newFrame_of_not_active hok ha
    have he := State.effAdv_of_not_active ha
    have hb : s.HoldsBatch q := h.follows hvs q (by simpa [ha, hq] using hnext.symm)
    refine hseq.holdsBatch hcfg ?_ ?_ fun l ln hln => ?_
    · rw [State.nextPc_of_not_active hnf ha, hb.pc]
    · rw [State.nextY_of_not_endOfLine hnf (.inl he), hb.y]
    · rw [State.nextX_of_not_effAdv hnf he, hb.lane l ln hln]
  | true =>
    obtain rfl : s.scanned = q := by simpa [ha, hq] using hnext.symm
    cases hscanned : s.scanned with
    | zero =>
      have hnf := (State.newFrame_iff_scanned_eq_zero ha).mpr hscanned
      refine hseq.holdsBatch hcfg ?_ ?_ fun l ln hln => ?_
      · rw [State.nextPc_of_newFrame hnf, Nat.zero_mod, Nat.zero_min]
      · rw [State.nextY_of_newFrame hnf, Nat.zero_div]
      · have hl := (h.lt_n_of_lane hln).trans_le (Config.n_le_width hok)
        rw [State.nextX_of_reset (.inl hnf), Nat.zero_div, Nat.zero_mul, Nat.zero_add, Nat.mod_eq_of_lt hl]
    | succ q =>
      have hb := h.batchTick ha hscanned
      refine hseq.holdsBatch hcfg hb.nextPc_eq hb.nextY_eq fun l ln hln => ?_
      rw [hb.lane l ln hln, hb.nextX_eq (h.lt_n_of_lane hln)]

theorem State.ReferenceRun.next (hstep : step s = .next t) : t.ReferenceRun := by
  obtain ⟨hcfg, -, -, hinputs⟩ := step_timing h.ticksOn.rst hstep
  exact {
    ticksOn := h.ticksOn.step hstep
    processor := hcfg ▸ h.processor
    reference := fun x hx => h.reference x (List.mem_of_mem_tail (hinputs ▸ hx))
    follows := h.next_follows hstep }

theorem State.ReferenceRun.reaches {k : Nat} (hk : Reaches s k t) : t.ReferenceRun := by
  induction k generalizing t with
  | zero =>
    obtain rfl : t = s := hk
    exact h
  | succ k ih =>
    obtain ⟨u, hu, hstep⟩ := hk
    exact (ih hu).next hstep

/-- On an active tick that is neither a frame pulse nor an advance tick, the batch is the one being scanned (R322). -/
theorem State.ReferenceRun.batch_scanned (ha : s.active = true) (hnf : s.newFrame = false) (hadv : s.adv = false) :
    s.yCoord = s.yPos ∧ ∀ (l : Nat) (ln : Lane), s.lanes[l]? = some ln →
      ln.xCoord = s.xPos / s.cfg.n * s.cfg.n + l := by
  have hok := h.ticksOn.checked
  have hne : s.scanned ≠ 0 := mt (State.newFrame_iff_scanned_eq_zero ha).mpr (Bool.eq_false_iff.mp hnf)
  obtain ⟨q, hq⟩ := Nat.exists_eq_succ_of_ne_zero hne
  have hb := h.batchTick ha hq
  have hdvd : ¬ s.cfg.n ∣ q + 1 := by
    rw [← hb.effAdv_iff, State.effAdv_of_active ha, hadv]
    exact Bool.false_ne_true
  have hline : ¬ s.cfg.width ∣ q + 1 := fun hw => hdvd ((Config.n_dvd_width hok).trans hw)
  refine ⟨?_, fun l ln hln => ?_⟩
  · rw [hb.y, ← Nat.succ_div_of_not_dvd hline, ← hb.scanned, State.scanned_div_width ha]
  · rw [hb.lane l ln hln, ← Nat.succ_div_of_not_dvd hdvd, ← hb.scanned,
      State.batchColumn_of_active hok ha (h.lt_n_of_lane hln)]

end referenceRun

end Machine

/-! ### The statements -/

open Machine

/-- Settles O34: a fetched instruction commits, and the clock edge follows. -/
theorem stepRunsTheDecodedInstruction : Obligations.StepRunsTheDecodedInstruction := by
  unfold Obligations.StepRunsTheDecodedInstruction
  refine ⟨fun s w i hok hrst hpp hw hi => ?processor, fun s hok hrst hpp => ?none⟩
  case processor =>
    have hfetch : s.fetch = some i := fetch_eq_some.mpr ⟨w, hw, hi⟩
    obtain ⟨op, hexec⟩ := exec_runs_lanes i s
    exact ⟨_, _, hexec, step_of_fetch hok hrst hpp hfetch hexec, rfl, rfl⟩
  case none => exact ⟨_, step_of_no_processor hok hrst hpp, rfl, rfl⟩

/-- Settles O47, signal by signal: a program and a line that are not empty have a last instruction and a last pixel. -/
theorem sequencerSignals : Obligations.SequencerSignals := by
  unfold Obligations.SequencerSignals
  rintro s ⟨hok, -⟩ - -
  have hp := Config.p_pos hok
  have hw := Config.width_pos hok
  refine ⟨?ready, State.effAdv_iff, ?last, State.adv_iff_of_reference, fun b => State.adv_of_request⟩
  case ready =>
    rw [State.resultReady_iff]
    omega
  case last =>
    have hlast (x : Nat) : x + 1 = s.cfg.width ↔ x = s.cfg.width - 1 := by omega
    simp only [State.endOfLine_iff, hlast]

/-- Settles O48, case by case of R307. -/
theorem programCounterStep : Obligations.ProgramCounterStep := by
  unfold Obligations.ProgramCounterStep
  intro s hs
  obtain ⟨_, t, -, ht, hseq⟩ := hs.exists_step
  obtain ⟨⟨hok, -, hpc⟩, hpp⟩ := hs
  have hlast : s.pc + 1 = s.cfg.p ↔ s.pc = s.cfg.p - 1 := by
    have hp := Config.p_pos hok
    omega
  refine ⟨t, ht, ?_⟩
  rw [hseq.pc]
  refine ⟨State.nextPc_lt (hpc hpp), State.nextPc_of_newFrame, State.nextPc_of_effAdv,
    fun hnf ha he hne => ?goOn, fun hnf ha he heq => ?stay, State.nextPc_of_not_active⟩
  case goOn => rw [State.nextPc_of_not_effAdv hnf ha he, if_neg (mt hlast.mp hne)]
  case stay => rw [State.nextPc_of_not_effAdv hnf ha he, if_pos (hlast.mpr heq)]

/-- Settles O49, case by case of R308; an instruction's commit leaves `x_coord` alone. -/
theorem laneCoordinateStep : Obligations.LaneCoordinateStep := by
  unfold Obligations.LaneCoordinateStep
  intro s hs
  obtain ⟨i, t, -, ht, hseq⟩ := hs.exists_step
  refine ⟨t, ht, hseq.laneCount, fun l ln hln => ⟨_, hseq.lane hln, ?_⟩⟩
  simp only [State.nextLane_xCoord]
  exact ⟨fun hr => State.nextX_of_reset hr l _, fun hnf hnl he => State.nextX_of_effAdv hnf hnl he l _,
    fun hnf he => State.nextX_of_not_effAdv hnf he l _⟩

/-- Settles O50, case by case of R309. -/
theorem verticalCoordinateStep : Obligations.VerticalCoordinateStep := by
  unfold Obligations.VerticalCoordinateStep
  intro s hs
  obtain ⟨_, t, -, ht, hseq⟩ := hs.exists_step
  refine ⟨t, ht, ?_⟩
  rw [hseq.y]
  exact ⟨State.nextY_of_newFrame, State.nextY_of_endOfLine, State.nextY_of_not_endOfLine⟩

/-- Settles O51, both cases of R310. -/
theorem frameCounterStep : Obligations.FrameCounterStep := by
  unfold Obligations.FrameCounterStep
  intro s hs
  obtain ⟨_, t, -, ht, hseq⟩ := hs.exists_step
  refine ⟨t, ht, ?_⟩
  rw [hseq.frame]
  exact ⟨fun hnf => if_pos hnf, fun hnf => if_neg (Bool.eq_false_iff.mp hnf)⟩

/-- Settles O52: beside the commit the edge keeps the output latch, and the registers unless it clears them. -/
theorem frameBoundaryClear : Obligations.FrameBoundaryClear := by
  unfold Obligations.FrameBoundaryClear
  rintro s c i ⟨⟨hok, hrst, -⟩, hpp⟩ hfetch hexec
  refine ⟨s.clockEdge c, step_of_fetch hok hrst hpp hfetch hexec, fun l ln hln => ⟨s.stepLane l ln, ?lane, rfl, ?_⟩⟩
  case lane => rw [State.clockEdge_lanes, if_pos hpp, List.getElem?_mapIdx, hln, Option.map_some]
  rw [← State.clearsGp_iff, State.stepLane_gp]
  exact ⟨fun hclear => by rw [if_pos hclear, List.map_const'], fun hkeep => if_neg hkeep⟩

/-- Settles O53: both ticks run the same instruction, and a lane's next registers are a function of the lane and of what
the two states share. -/
theorem lanesAreIndependent : Obligations.LanesAreIndependent := by
  unfold Obligations.LanesAreIndependent
  intro s₁ s₂ l ln hs hs₂ hln₁ hln₂
  obtain ⟨lanes, rfl⟩ : ∃ lanes, s₂ = s₁.withLanes lanes := ⟨_, hs₂⟩
  have hs' : (s₁.withLanes lanes).Ticks := hs
  cases hpp : s₁.cfg.pixelProcessor with
  | false =>
    obtain ⟨hok, hrst, -⟩ := hs
    refine ⟨_, _, ln, step_of_no_processor hok hrst hpp, step_of_no_processor hok hrst hpp, ?_, ?_⟩
    · rw [State.clockEdge_lanes, hpp, if_neg Bool.false_ne_true, hln₁]
    · rw [State.clockEdge_lanes, s₁.withLanes_cfg, hpp, if_neg Bool.false_ne_true, hln₂]
  | true =>
    obtain ⟨i, t₁, hfetch₁, ht₁, hseq₁⟩ := State.PpTicks.exists_step ⟨hs, hpp⟩
    obtain ⟨j, t₂, hfetch₂, ht₂, hseq₂⟩ := State.PpTicks.exists_step ⟨hs', hpp⟩
    obtain rfl : i = j := Option.some.inj (hfetch₁.symm.trans (s₁.fetch_withLanes lanes ▸ hfetch₂))
    exact ⟨t₁, t₂, s₁.nextLane i l ln, ht₁, ht₂, hseq₁.lane hln₁,
      s₁.nextLane_withLanes lanes ▸ hseq₂.lane hln₂⟩

/-- Settles O55: the run keeps the lanes in step with the raster. -/
theorem laneCoordinatesFollowTheRaster : Obligations.LaneCoordinatesFollowTheRaster := by
  unfold Obligations.LaneCoordinatesFollowTheRaster
  intro c is k t hok hpp href hrun ha hnf hadv
  have hstart := State.resetWith_referenceRun hok hpp href
  obtain ⟨-, hcfg, -⟩ := hstart.ticksOn.reaches hrun
  have ht := hstart.reaches hrun
  obtain ⟨hy, hx⟩ := ht.batch_scanned ha hnf hadv
  have hcfg : t.cfg = c := hcfg
  have hcount : t.lanes.length = c.n := hcfg ▸ ht.ticksOn.inRange.laneCount
  refine ⟨hy, List.ext_getElem (by simp [hcount]) fun l hl _ => ?_⟩
  simp only [List.getElem_map, List.getElem_range]
  rw [hx l _ (List.getElem?_eq_getElem _), hcfg]

end Sys2Proof

/-! PROOFS. The two pixel source generators (46_pixel_sources.md R340 to R353): the equations of their registers, what an
edge makes of them and of the raster, and that on every run the Test Pattern counters and the Still generator's position
are functions of the raster position. -/

namespace Sys2Proof

/-- No line begins with a visible pixel (R386). -/
theorem Config.hPrescan_pos {c : Config} (h : configErrors c = []) : 0 < c.res.h.prescan := by
  obtain ⟨hh, -⟩ := configErrors_eq_nil.mp h
  exact Nat.add_pos_left (timingErrors_eq_nil.mp hh).1 _

/-- A line ends with its front porch, which may be empty (R27). -/
theorem Config.hFullscan_eq (c : Config) :
    c.res.h.fullscan = c.res.h.prescan + c.res.h.frontPorch + c.width := rfl

/-- The image table has one entry for each pixel (R390). -/
theorem Config.img_size {c : Config} (h : configErrors c = []) (hst : c.still = true) :
    c.img.size = c.width * c.height := by
  obtain ⟨-, -, -, -, -, -, himg⟩ := configErrors_eq_nil.mp h
  simp only [imageErrors, hst, Bool.not_true, Bool.false_or, ite_eq_left_iff, List.cons_ne_nil, imp_false, not_not,
    Bool.and_eq_true, beq_iff_eq] at himg
  exact himg.1

namespace Machine

/-! ### The generators' registers and outputs: one equation for each case of their rules -/

section next
variable {s : State}

theorem State.vActive_of_active (h : s.active = true) : s.vActive = true := (State.active_iff.mp h).2

theorem State.lastPixel_iff : s.lastPixel = true ↔ s.active = true ∧ s.xPos = s.cfg.width - 1 := by
  simp [State.lastPixel]

theorem State.nextPixCount_of_not_active (h : s.active = false) : s.nextPixCount = 0 := by
  simp [State.nextPixCount, h]

theorem State.nextPixCount_of_active (h : s.active = true) :
    s.nextPixCount = if s.pixCount = s.cfg.cellWidth - 1 then 0 else s.pixCount + 1 := by
  simp [State.nextPixCount, h]

theorem State.nextCellCol_of_not_active (h : s.active = false) : s.nextCellCol = 0 := by
  simp [State.nextCellCol, h]

theorem State.nextCellCol_of_active (h : s.active = true) : s.nextCellCol =
    if s.pixCount = s.cfg.cellWidth - 1 then (s.cellColCount + 1) % 2 ^ s.cfg.colorDepth else s.cellColCount := by
  simp [State.nextCellCol, h]

theorem State.nextLineCount_of_not_vActive (h : s.vActive = false) : s.nextLineCount = 0 := by
  simp [State.nextLineCount, h]

theorem State.nextLineCount_of_lastPixel (h : s.lastPixel = true) :
    s.nextLineCount = if s.lineCount = s.cfg.cellHeight - 1 then 0 else s.lineCount + 1 := by
  obtain ⟨ha, -⟩ := State.lastPixel_iff.mp h
  simp [State.nextLineCount, State.vActive_of_active ha, h]

theorem State.nextLineCount_of_not_lastPixel (hv : s.vActive = true) (h : s.lastPixel = false) :
    s.nextLineCount = s.lineCount := by
  simp [State.nextLineCount, hv, h]

theorem State.nextCellRow_of_not_vActive (h : s.vActive = false) : s.nextCellRow = 0 := by
  simp [State.nextCellRow, h]

/-- The cell row is counted modulo 8, the number of values of its three bits (R343). -/
theorem State.nextCellRow_toNat_of_lastPixel (h : s.lastPixel = true) : s.nextCellRow.toNat =
    if s.lineCount = s.cfg.cellHeight - 1 then (s.cellRowCount.toNat + 1) % 8 else s.cellRowCount.toNat := by
  obtain ⟨ha, -⟩ := State.lastPixel_iff.mp h
  simp only [State.nextCellRow, State.vActive_of_active ha, h, Bool.not_true, Bool.false_eq_true, if_false, if_true,
    beq_iff_eq]
  split
  · exact BitVec.toNat_add ..
  · rfl

theorem State.nextCellRow_of_not_lastPixel (hv : s.vActive = true) (h : s.lastPixel = false) :
    s.nextCellRow = s.cellRowCount := by
  simp [State.nextCellRow, hv, h]

theorem State.tpRgb_of_not_active (h : s.active = false) : s.tpRgb = 0 := by
  simp [State.tpRgb, h]

theorem State.tpRgb_of_active (h : s.active = true) : s.tpRgb = s.cfg.rgbOrder.place s.cfg.colorDepth
    (s.gatedChannel 0) (s.gatedChannel 1) (s.gatedChannel 2) := if_pos h

theorem State.gate_of_getElem? {gate : BitVec 3} (h : s.cfg.tpPattern[s.cellRowCount.toNat]? = some gate) :
    s.gate = gate := by
  obtain ⟨hlt, hget⟩ := Vector.getElem?_eq_some_iff.mp h
  exact hget

theorem State.gatedChannel_lt (h : s.cellColCount < 2 ^ s.cfg.colorDepth) (k : Nat) :
    s.gatedChannel k < 2 ^ s.cfg.colorDepth := by
  unfold State.gatedChannel
  split
  · exact h
  · exact Nat.two_pow_pos _

theorem State.ex_of_newLine (h : s.newLine = true) : s.ex = 0 := if_pos h

theorem State.ex_of_not_newLine (h : s.newLine = false) : s.ex = s.sx := by
  simp [State.ex, h]

theorem State.ey_of_newFrame (h : s.newFrame = true) : s.ey = 0 := if_pos h

theorem State.ey_of_newLine (hnf : s.newFrame = false) (h : s.newLine = true) :
    s.ey = (s.sy + 1) % s.cfg.height := by
  simp [State.ey, hnf, h]

theorem State.ey_of_not_newLine (hnf : s.newFrame = false) (h : s.newLine = false) : s.ey = s.sy := by
  simp [State.ey, hnf, h]

theorem State.stRgb_of_not_active (h : s.active = false) : s.stRgb = 0 := by
  simp [State.stRgb, h]

theorem State.stRgb_of_lt (h : s.active = true) (hk : s.ey * s.cfg.width + s.ex < s.cfg.width * s.cfg.height) :
    s.stRgb = s.cfg.img.read (s.ey * s.cfg.width + s.ex) := by
  simp [State.stRgb, h, hk]

theorem State.stRgb_of_le (h : s.active = true) (hk : s.cfg.width * s.cfg.height ≤ s.ey * s.cfg.width + s.ex) :
    s.stRgb = 0 := by
  simp [State.stRgb, h, Nat.not_lt.mpr hk]

theorem State.nextSx_of_active (h : s.active = true) : s.nextSx = s.ex + 1 := if_pos h

theorem State.nextSx_of_not_active (h : s.active = false) : s.nextSx = s.sx := by
  simp [State.nextSx, h]

theorem State.nextSy_of_active (h : s.active = true) : s.nextSy = s.ey := if_pos h

theorem State.nextSy_of_not_active (h : s.active = false) : s.nextSy = s.sy := by
  simp [State.nextSy, h]

end next

/-! ### An edge of the generators -/

/-- A step from `s` to `t` without reset: what the raster's counters and the registers of the generators become. -/
structure SourceStep (s t : State) : Prop where
  /-- R46. -/
  cfg          : t.cfg = s.cfg
  /-- R153. -/
  scan         : t.scanCounter = s.nextScan
  /-- R154. -/
  line         : t.lineCounter = s.nextLine
  /-- R342. -/
  pixCount     : t.pixCount = if s.cfg.testPattern then s.nextPixCount else s.pixCount
  /-- R342. -/
  cellColCount : t.cellColCount = if s.cfg.testPattern then s.nextCellCol else s.cellColCount
  /-- R343. -/
  lineCount    : t.lineCount = if s.cfg.testPattern then s.nextLineCount else s.lineCount
  /-- R343. -/
  cellRowCount : t.cellRowCount = if s.cfg.testPattern then s.nextCellRow else s.cellRowCount
  /-- R350. -/
  sx           : t.sx = if s.cfg.still then s.nextSx else s.sx
  /-- R350. -/
  sy           : t.sy = if s.cfg.still then s.nextSy else s.sy

theorem step_sourceStep {s t : State} (hrst : s.rst = false) (h : step s = .next t) : SourceStep s t := by
  obtain ⟨hcfg, hscan, hline, -⟩ := step_timing hrst h
  obtain ⟨c, -, rfl⟩ := step_eq_clockEdge hrst h
  exact ⟨hcfg, hscan, hline, rfl, rfl, rfl, rfl, rfl, rfl⟩

theorem State.Ticks.exists_sourceStep {s : State} (h : s.Ticks) : ∃ t, step s = .next t ∧ SourceStep s t := by
  obtain ⟨t, ht⟩ := h.exists_step
  obtain ⟨-, hrst, -⟩ := h
  exact ⟨t, ht, step_sourceStep hrst ht⟩

/-! ### Lines of the picture -/

/-- How many lines of the picture have been shown to their last pixel, on a visible line. -/
def State.linesShown (s : State) : Nat :=
  s.yPos + if s.cfg.res.h.prescan + s.cfg.width ≤ s.scanCounter then 1 else 0

/-- How many lines of the picture have shown a pixel, on a visible line. -/
def State.linesBegun (s : State) : Nat :=
  s.yPos + if s.cfg.res.h.prescan < s.scanCounter then 1 else 0

theorem State.linesShown_of_active {s : State} (h : s.active = true) : s.linesShown = s.yPos := by
  obtain ⟨-, hhi⟩ := State.hActive_iff.mp (State.active_iff.mp h).1
  rw [State.linesShown, if_neg (Nat.not_le.mpr hhi), Nat.add_zero]

section raster
variable {s t : State} (h : SourceStep s t)
include h

/-- An edge goes on in the line, or ends it and begins the next line or the frame (R153, R154). -/
theorem SourceStep.counters_cases :
    (s.scanCounter ≠ s.cfg.res.h.fullscan - 1 ∧ t.scanCounter = s.scanCounter + 1 ∧ t.lineCounter = s.lineCounter) ∨
      (s.scanCounter = s.cfg.res.h.fullscan - 1 ∧ t.scanCounter = 0 ∧
        (t.lineCounter = s.lineCounter + 1 ∨ t.lineCounter = 0)) := by
  by_cases hw : s.scanCounter = s.cfg.res.h.fullscan - 1
  · refine .inr ⟨hw, h.scan.trans (State.nextScan_of_wraps hw), ?_⟩
    rw [h.line, State.nextLine_of_wraps hw]
    split
    · exact .inr rfl
    · exact .inl rfl
  · exact .inl ⟨hw, h.scan.trans (State.nextScan_of_not_wraps hw), h.line.trans (State.nextLine_of_not_wraps hw)⟩

variable (hok : configErrors s.cfg = [])
include hok

/-- An active tick after one that is not active shows the first pixel of a line. -/
theorem SourceStep.xPos_of_not_active (hs : s.active = false) (ht : t.active = true) : t.xPos = 0 := by
  have hpre := Config.hPrescan_pos hok
  rw [← Bool.not_eq_true] at hs
  simp only [State.active_iff, State.hActive_iff, State.vActive_iff, State.xPos_eq, h.cfg] at hs ht ⊢
  obtain hin | hend := h.counters_cases <;> omega

/-- An active tick after another shows the pixel after it: a line does not begin with a visible pixel. -/
theorem SourceStep.xPos_of_active (hs : s.active = true) (ht : t.active = true) : t.xPos = s.xPos + 1 := by
  have hpre := Config.hPrescan_pos hok
  simp only [State.active_iff, State.hActive_iff, State.xPos_eq, h.cfg] at hs ht ⊢
  obtain hin | hend := h.counters_cases <;> omega

/-- The first visible line begins with no pixel shown: the picture comes after a line that is not visible. -/
theorem SourceStep.counters_of_not_vActive (hs : s.vActive = false) (ht : t.vActive = true) :
    t.scanCounter = 0 ∧ t.yPos = 0 := by
  have hpre := Config.vPrescan_pos hok
  rw [← Bool.not_eq_true] at hs
  simp only [State.vActive_iff, State.yPos_eq, h.cfg] at hs ht ⊢
  obtain hin | hend := h.counters_cases <;> omega

theorem SourceStep.linesShown_of_not_vActive (hs : s.vActive = false) (ht : t.vActive = true) : t.linesShown = 0 := by
  obtain ⟨hscan, hy⟩ := h.counters_of_not_vActive hok hs ht
  have hpre := Config.hPrescan_pos hok
  rw [State.linesShown, hscan, hy, h.cfg, if_neg (by omega)]

theorem SourceStep.linesBegun_of_not_vActive (hs : s.vActive = false) (ht : t.vActive = true) : t.linesBegun = 0 := by
  obtain ⟨hscan, hy⟩ := h.counters_of_not_vActive hok hs ht
  rw [State.linesBegun, hscan, hy, if_neg (Nat.not_lt_zero _)]

/-- A line is shown at its last visible pixel, and at no other tick (R343). -/
theorem SourceStep.linesShown_of_vActive (hs : s.vActive = true) (ht : t.vActive = true) :
    t.linesShown = s.linesShown + if s.lastPixel then 1 else 0 := by
  have hpre := Config.vPrescan_pos hok
  have hw := Config.width_pos hok
  have hfull := s.cfg.hFullscan_eq
  simp only [State.linesShown, State.lastPixel_iff, State.active_iff, State.hActive_iff, hs, and_true,
    State.xPos_eq, State.yPos_eq, h.cfg]
  simp only [State.vActive_iff, h.cfg] at hs ht
  obtain hin | hend := h.counters_cases
  · split_ifs <;> omega
  · split_ifs <;> omega

/-- An active tick begins its line, if no tick has, and no other tick begins one. -/
theorem SourceStep.linesBegun_of_vActive (hs : s.vActive = true) (ht : t.vActive = true) :
    t.linesBegun = if s.active then s.yPos + 1 else s.linesBegun := by
  have hpre := Config.vPrescan_pos hok
  have hw := Config.width_pos hok
  have hfull := s.cfg.hFullscan_eq
  simp only [State.linesBegun, State.active_iff, State.hActive_iff, hs, and_true, State.yPos_eq, h.cfg]
  simp only [State.vActive_iff, h.cfg] at hs ht
  obtain hin | hend := h.counters_cases
  · split_ifs <;> omega
  · split_ifs <;> omega

end raster

/-! ### Runs -/

/-- What holds right after reset, and is kept by every step without reset, holds on every run: a reset edge begins the run
again (R413). -/
theorem Run.invariant {c : Config} (hok : ValidConfig c) {P : State → Prop} (hreset : ∀ is, P (State.resetWith c is))
    (hstep : ∀ s t, s.cfg = c → SourceStep s t → P s → P t) {is : List TickInput} {k : Nat} {t : State}
    (hrun : Run c is k t) : t.cfg = c ∧ t.InRange ∧ P t := by
  unfold Run at hrun
  induction k generalizing t with
  | zero =>
    obtain rfl : t = State.resetWith c is := hrun
    exact ⟨rfl, State.resetWith_inRange hok is, hreset is⟩
  | succ k ih =>
    obtain ⟨s, hs, ht⟩ := hrun
    obtain ⟨hcfg, hin, hP⟩ := ih hs
    have hin' := step_inRange hin ht
    cases hrst : s.rst with
    | false =>
      have hsrc := step_sourceStep hrst ht
      exact ⟨hsrc.cfg.trans hcfg, hin', hstep s t hcfg hsrc hP⟩
    | true =>
      have hedge := Host.Outcome.next.inj ((step_of_rst (hcfg ▸ hok.1) hrst).symm.trans ht)
      rw [State.resetEdge, hcfg] at hedge
      exact ⟨hedge ▸ rfl, hin', hedge ▸ hreset _⟩

/-! ### The Test Pattern counters and the raster -/

/-- Two counters that divide a count `q` into cells of `m`, the number of the cell counted modulo `n`. -/
structure CellCount (m n q inCell cell : Nat) : Prop where
  inCell : inCell = q % m
  cell   : cell = q / m % n

theorem CellCount.zero (m n : Nat) : CellCount m n 0 0 0 := ⟨(Nat.zero_mod m).symm, by simp⟩

/-- The counters' step counts one more. -/
theorem CellCount.succ {m n q a b : Nat} (hm : 0 < m) (h : CellCount m n q a b) :
    CellCount m n (q + 1) (if a = m - 1 then 0 else a + 1) (if a = m - 1 then (b + 1) % n else b) := by
  obtain ⟨rfl, rfl⟩ := h
  have hlast : q % m = m - 1 ↔ m ∣ q + 1 := by
    rw [← mod_add_one_eq_iff_dvd hm]
    omega
  by_cases hdvd : m ∣ q + 1
  · rw [if_pos (hlast.mpr hdvd), if_pos (hlast.mpr hdvd)]
    exact ⟨(Nat.mod_eq_zero_of_dvd hdvd).symm, by rw [Nat.succ_div_of_dvd hdvd, Nat.mod_add_mod]⟩
  · rw [if_neg (mt hlast.mp hdvd), if_neg (mt hlast.mp hdvd)]
    exact ⟨(add_one_mod_of_not_dvd hm hdvd).symm, by rw [Nat.succ_div_of_not_dvd hdvd]⟩

/-- The Test Pattern counters are in step with the raster: on an active tick the horizontal ones count its column, and on
a visible line the vertical ones count the lines shown (R346). -/
structure State.GridInStep (s : State) : Prop where
  column : s.active = true →
    CellCount s.cfg.cellWidth (2 ^ s.cfg.colorDepth) s.xPos s.pixCount s.cellColCount
  row    : s.vActive = true → CellCount s.cfg.cellHeight 8 s.linesShown s.lineCount s.cellRowCount.toNat

/-- Right after reset no line of the picture is begun (R412, R413). -/
theorem State.resetWith_vActive {c : Config} (hok : configErrors c = []) (is : List TickInput) :
    (State.resetWith c is).vActive = false := by
  have hpre := Config.vPrescan_pos hok
  rw [← Bool.not_eq_true, State.vActive_iff, State.resetWith_cfg, State.resetWith_lineCounter]
  omega

theorem State.resetWith_gridInStep {c : Config} (hok : configErrors c = []) (is : List TickInput) :
    (State.resetWith c is).GridInStep := by
  have hv := State.resetWith_vActive hok is
  exact ⟨fun ha => absurd (State.vActive_of_active ha) (Bool.eq_false_iff.mp hv),
    fun hv' => absurd hv' (Bool.eq_false_iff.mp hv)⟩

section grid
variable {s t : State} (h : SourceStep s t) (hok : configErrors s.cfg = []) (htp : s.cfg.testPattern = true)
include h hok htp

/-- Every step keeps the horizontal counters in step: not active they are 0, and active they count a pixel. -/
theorem SourceStep.column_inStep (hs : s.GridInStep) (ha' : t.active = true) :
    CellCount t.cfg.cellWidth (2 ^ t.cfg.colorDepth) t.xPos t.pixCount t.cellColCount := by
  obtain ⟨hcw, -⟩ := Config.cell_pos hok htp
  rw [h.pixCount, h.cellColCount, if_pos htp, if_pos htp, h.cfg]
  cases ha : s.active with
  | false =>
    rw [State.nextPixCount_of_not_active ha, State.nextCellCol_of_not_active ha, h.xPos_of_not_active hok ha ha']
    exact CellCount.zero ..
  | true =>
    rw [State.nextPixCount_of_active ha, State.nextCellCol_of_active ha, h.xPos_of_active hok ha ha']
    exact (hs.column ha).succ hcw

/-- Every step keeps the vertical counters in step: off the visible lines they are 0, and on them they count a line at its
last pixel. -/
theorem SourceStep.row_inStep (hs : s.GridInStep) (hv' : t.vActive = true) :
    CellCount t.cfg.cellHeight 8 t.linesShown t.lineCount t.cellRowCount.toNat := by
  obtain ⟨-, hch⟩ := Config.cell_pos hok htp
  rw [h.lineCount, h.cellRowCount, if_pos htp, if_pos htp, h.cfg]
  cases hv : s.vActive with
  | false =>
    rw [State.nextLineCount_of_not_vActive hv, State.nextCellRow_of_not_vActive hv,
      h.linesShown_of_not_vActive hok hv hv']
    exact CellCount.zero ..
  | true =>
    rw [h.linesShown_of_vActive hok hv hv']
    cases hl : s.lastPixel with
    | false =>
      rw [State.nextLineCount_of_not_lastPixel hv hl, State.nextCellRow_of_not_lastPixel hv hl]
      exact hs.row hv
    | true =>
      rw [State.nextLineCount_of_lastPixel hl, State.nextCellRow_toNat_of_lastPixel hl]
      exact (hs.row hv).succ hch

theorem SourceStep.gridInStep (hs : s.GridInStep) : t.GridInStep :=
  ⟨h.column_inStep hok htp hs, h.row_inStep hok htp hs⟩

end grid

/-! ### The Still generator's position and the raster -/

/-- The Still generator's row is in step with the raster: on a visible line it is that of the line last begun (R351). -/
def State.RowInStep (s : State) : Prop := s.vActive = true → 0 < s.linesBegun → s.sy + 1 = s.linesBegun

/-- In step, the row read is the row shown: the line pulse moves `sy` to the line that begins (R348). -/
theorem State.RowInStep.ey_of_active {s : State} (h : s.RowInStep) (ha : s.active = true) : s.ey = s.yPos := by
  have hy := State.yPos_lt_of_active ha
  have hv := State.vActive_of_active ha
  obtain ⟨hlo, -⟩ := State.hActive_iff.mp (State.active_iff.mp ha).1
  unfold State.RowInStep State.linesBegun at h
  cases hnf : s.newFrame with
  | true =>
    obtain ⟨-, hline⟩ := State.newFrame_iff.mp hnf
    rw [State.ey_of_newFrame hnf, State.yPos_eq, hline, Nat.sub_self, Nat.zero_min]
  | false =>
    cases hnl : s.newLine with
    | true =>
      obtain ⟨hscan, -⟩ := State.newLine_iff.mp hnl
      have hne : s.yPos ≠ 0 := fun hy0 => by
        have hvlo := State.vActive_iff.mp hv
        have hline : s.lineCounter = s.cfg.res.v.prescan := by rw [State.yPos_eq] at hy0; omega
        simp [State.newFrame_iff.mpr ⟨hscan, hline⟩] at hnf
      rw [if_neg (by omega)] at h
      rw [State.ey_of_newLine hnf hnl, h hv (by omega), Nat.add_zero, Nat.mod_eq_of_lt hy]
    | false =>
      have hne : s.scanCounter ≠ s.cfg.res.h.prescan := fun hscan => by
        simp [State.newLine_iff.mpr ⟨hscan, hv⟩] at hnl
      rw [if_pos (by omega)] at h
      rw [State.ey_of_not_newLine hnf hnl]
      exact Nat.succ_inj.mp (h hv (Nat.succ_pos _))

theorem State.resetWith_rowInStep {c : Config} (hok : configErrors c = []) (is : List TickInput) :
    (State.resetWith c is).RowInStep :=
  fun hv => absurd hv (Bool.eq_false_iff.mp (State.resetWith_vActive hok is))

/-- Every step keeps the row in step: an active tick leaves the row it showed, and no other tick moves it. -/
theorem SourceStep.rowInStep {s t : State} (h : SourceStep s t) (hok : configErrors s.cfg = [])
    (hst : s.cfg.still = true) (hs : s.RowInStep) : t.RowInStep := by
  intro hv' hpos
  rw [h.sy, if_pos hst]
  cases hv : s.vActive with
  | false => exact absurd (h.linesBegun_of_not_vActive hok hv hv') (Nat.ne_of_gt hpos)
  | true =>
    rw [h.linesBegun_of_vActive hok hv hv'] at hpos ⊢
    cases ha : s.active with
    | false =>
      rw [State.nextSy_of_not_active ha]
      exact hs hv (by simpa [ha] using hpos)
    | true =>
      rw [State.nextSy_of_active ha, hs.ey_of_active ha]
      rfl

theorem State.InRange.ex_of_active {s : State} (h : s.InRange) (hst : s.cfg.still = true) (ha : s.active = true) :
    s.ex = s.xPos := by
  have hx := State.xPos_lt_of_active ha
  rw [State.ex_of_active h.inStep hst ha]
  rw [State.xPos_eq] at hx ⊢
  omega

/-! ### Independence -/

/-- `s` with the Test Pattern generator of `u`: whether it is there, its table and its registers. -/
def State.withTestPatternOf (s u : State) : State :=
  { s with
    cfg := { s.cfg with testPattern := u.cfg.testPattern, tpPattern := u.cfg.tpPattern }
    pixCount := u.pixCount
    lineCount := u.lineCount
    cellColCount := u.cellColCount
    cellRowCount := u.cellRowCount }

/-- `s` with the Still generator of `u`: whether it is there, its table and its registers. -/
def State.withStillOf (s u : State) : State :=
  { s with cfg := { s.cfg with still := u.cfg.still, img := u.cfg.img }, sx := u.sx, sy := u.sy }

/-- `s` with the Pixel Processor of `u`: whether it is there, its parameters, program and registers, and the requests to
come. -/
def State.withProcessorOf (s u : State) : State :=
  { s with
    cfg := { s.cfg with
      pixelProcessor := u.cfg.pixelProcessor
      n := u.cfg.n
      p := u.cfg.p
      prog := u.cfg.prog }
    pc := u.pc
    yCoord := u.yCoord
    frameCounter := u.frameCounter
    lanes := u.lanes
    inputs := u.inputs }

section independence
variable (s u : State)

/-- The Test Pattern generator's output does not look at the Pixel Processor. -/
theorem State.tpRgb_withProcessorOf : (s.withProcessorOf u).tpRgb = s.tpRgb := rfl

/-- The Still generator's output does not look at the Pixel Processor. -/
theorem State.stRgb_withProcessorOf : (s.withProcessorOf u).stRgb = s.stRgb := rfl

/-- The Test Pattern generator's output does not look at the Still generator. -/
theorem State.tpRgb_withStillOf : (s.withStillOf u).tpRgb = s.tpRgb := rfl

/-- The Still generator's output does not look at the Test Pattern generator. -/
theorem State.stRgb_withTestPatternOf : (s.withTestPatternOf u).stRgb = s.stRgb := rfl

/-- The fetch does not look at the generators (R292). -/
theorem State.fetch_withGeneratorsOf : ((s.withTestPatternOf u).withStillOf u).fetch = s.fetch := rfl

/-- A lane's next registers do not look at the generators (R294, R308). -/
theorem State.nextLane_withGeneratorsOf : ((s.withTestPatternOf u).withStillOf u).nextLane = s.nextLane := rfl

variable {s u} {t₁ t₂ : State}

/-- The Test Pattern registers' next values do not look at the Pixel Processor. -/
theorem SourceStep.grid_withProcessorOf (h₁ : SourceStep s t₁) (h₂ : SourceStep (s.withProcessorOf u) t₂) :
    t₁.pixCount = t₂.pixCount ∧ t₁.lineCount = t₂.lineCount ∧ t₁.cellColCount = t₂.cellColCount ∧
      t₁.cellRowCount = t₂.cellRowCount :=
  ⟨h₁.pixCount.trans h₂.pixCount.symm, h₁.lineCount.trans h₂.lineCount.symm,
    h₁.cellColCount.trans h₂.cellColCount.symm, h₁.cellRowCount.trans h₂.cellRowCount.symm⟩

/-- The Still registers' next values do not look at the Pixel Processor. -/
theorem SourceStep.still_withProcessorOf (h₁ : SourceStep s t₁) (h₂ : SourceStep (s.withProcessorOf u) t₂) :
    t₁.sx = t₂.sx ∧ t₁.sy = t₂.sy :=
  ⟨h₁.sx.trans h₂.sx.symm, h₁.sy.trans h₂.sy.symm⟩

/-- The Test Pattern registers' next values do not look at the Still generator. -/
theorem SourceStep.grid_withStillOf (h₁ : SourceStep s t₁) (h₂ : SourceStep (s.withStillOf u) t₂) :
    t₁.pixCount = t₂.pixCount ∧ t₁.lineCount = t₂.lineCount ∧ t₁.cellColCount = t₂.cellColCount ∧
      t₁.cellRowCount = t₂.cellRowCount :=
  ⟨h₁.pixCount.trans h₂.pixCount.symm, h₁.lineCount.trans h₂.lineCount.symm,
    h₁.cellColCount.trans h₂.cellColCount.symm, h₁.cellRowCount.trans h₂.cellRowCount.symm⟩

/-- The Still registers' next values do not look at the Test Pattern generator. -/
theorem SourceStep.still_withTestPatternOf (h₁ : SourceStep s t₁) (h₂ : SourceStep (s.withTestPatternOf u) t₂) :
    t₁.sx = t₂.sx ∧ t₁.sy = t₂.sy :=
  ⟨h₁.sx.trans h₂.sx.symm, h₁.sy.trans h₂.sy.symm⟩

/-- The raster's counters do not look at the generators. -/
theorem SourceStep.raster_withGeneratorsOf (h₁ : SourceStep s t₁)
    (h₂ : SourceStep ((s.withTestPatternOf u).withStillOf u) t₂) :
    t₁.scanCounter = t₂.scanCounter ∧ t₁.lineCounter = t₂.lineCounter :=
  ⟨h₁.scan.trans h₂.scan.symm, h₁.line.trans h₂.line.symm⟩

/-- A tick of the Pixel Processor does not look at the generators. -/
theorem SequencerStep.withGeneratorsOf {i : Instr} (h : SequencerStep ((s.withTestPatternOf u).withStillOf u) i t₂) :
    SequencerStep s i t₂ where
  pc := h.pc
  y := h.y
  frame := h.frame
  lanes := by rw [← s.nextLane_withGeneratorsOf u]; exact h.lanes

/-- A tick determines what the Pixel Processor becomes. -/
theorem SequencerStep.unique {i : Instr} (h₁ : SequencerStep s i t₁) (h₂ : SequencerStep s i t₂) :
    t₁.pc = t₂.pc ∧ t₁.yCoord = t₂.yCoord ∧ t₁.frameCounter = t₂.frameCounter ∧ t₁.lanes = t₂.lanes :=
  ⟨h₁.pc.trans h₂.pc.symm, h₁.y.trans h₂.y.symm, h₁.frame.trans h₂.frame.symm, h₁.lanes.trans h₂.lanes.symm⟩

/-- The Pixel Processor's registers after a tick, whether it is there or not, do not look at the generators. -/
theorem State.Ticks.processor_withGeneratorsOf (hs : s.Ticks) (hs' : ((s.withTestPatternOf u).withStillOf u).Ticks) :
    ∃ t₁ t₂, step s = .next t₁ ∧ step ((s.withTestPatternOf u).withStillOf u) = .next t₂ ∧ t₁.pc = t₂.pc ∧
      t₁.yCoord = t₂.yCoord ∧ t₁.frameCounter = t₂.frameCounter ∧ t₁.lanes = t₂.lanes := by
  cases hpp : s.cfg.pixelProcessor with
  | false =>
    obtain ⟨hok, hrst, -⟩ := hs
    obtain ⟨hok', hrst', -⟩ := hs'
    have hpp' : ((s.withTestPatternOf u).withStillOf u).cfg.pixelProcessor = false := hpp
    refine ⟨_, _, step_of_no_processor hok hrst hpp, step_of_no_processor hok' hrst' hpp', ?_⟩
    simp only [State.clockEdge_pc, State.clockEdge_yCoord, State.clockEdge_frameCounter, State.clockEdge_lanes, hpp, hpp',
      Bool.false_eq_true, if_false]
    exact ⟨rfl, rfl, rfl, rfl⟩
  | true =>
    obtain ⟨i, t₁, hfetch₁, ht₁, hseq₁⟩ := State.PpTicks.exists_step ⟨hs, hpp⟩
    obtain ⟨j, t₂, hfetch₂, ht₂, hseq₂⟩ := State.PpTicks.exists_step ⟨hs', hpp⟩
    obtain rfl : i = j := Option.some.inj (hfetch₁.symm.trans (s.fetch_withGeneratorsOf u ▸ hfetch₂))
    exact ⟨t₁, t₂, ht₁, ht₂, hseq₁.unique hseq₂.withGeneratorsOf⟩

end independence

end Machine

/-! ### The statements -/

open Machine

/-- Settles O58: every step without reset keeps the counters in step with the raster, and a reset begins the raster and
the counters again. -/
theorem testPatternClosedForm : Obligations.TestPatternClosedForm := by
  unfold Obligations.TestPatternClosedForm
  intro c is k t hok htp hrun ha
  obtain ⟨rfl, -, hgrid⟩ := Run.invariant hok (State.resetWith_gridInStep hok.1)
    (fun s t hc hstep hs => hstep.gridInStep (hc ▸ hok.1) (hc ▸ htp) hs) hrun
  obtain ⟨hpix, hcol⟩ := hgrid.column ha
  obtain ⟨hline, hrow⟩ := hgrid.row (State.vActive_of_active ha)
  rw [State.linesShown_of_active ha] at hline hrow
  exact ⟨hpix, hcol, hline, hrow⟩

/-- Settles O60: on every run the position read is the raster's, and the table has an entry for it. -/
theorem stillReproducesTheImage : Obligations.StillReproducesTheImage := by
  unfold Obligations.StillReproducesTheImage
  intro c is k t hok hst hrun ha
  obtain ⟨rfl, hin, hrow⟩ := Run.invariant hok (State.resetWith_rowInStep hok.1)
    (fun s t hc hstep hs => hstep.rowInStep (hc ▸ hok.1) (hc ▸ hst) hs) hrun
  have hex := hin.ex_of_active hst ha
  have hey := hrow.ey_of_active ha
  have hlt : t.yPos * t.cfg.width + t.xPos < t.cfg.width * t.cfg.height := by
    rw [Nat.add_comm, Nat.mul_comm]
    exact lineMajor_lt (State.xPos_lt_of_active ha) (State.yPos_lt_of_active ha)
  refine ⟨hex, hey, by rwa [Config.img_size hok.1 hst], ?_⟩
  rw [State.stRgb_of_lt ha (by rwa [hex, hey]), hex, hey]

/-- Settles O54: each block's next registers and output are the same function of what the two states share. -/
theorem generatorsAndProcessorAreIndependent : Obligations.GeneratorsAndProcessorAreIndependent := by
  unfold Obligations.GeneratorsAndProcessorAreIndependent
  refine ⟨fun s s₂ hs hs₂ heq => ?generators, fun s s₂ hs hs₂ heq => ?processor, fun s s₂ hs hs₂ heq => ?testPattern,
    fun s s₂ hs hs₂ heq => ?still⟩
  case generators =>
    obtain ⟨u, rfl⟩ : ∃ u, s₂ = s.withProcessorOf u := ⟨s₂, heq⟩
    obtain ⟨t₁, ht₁, hsrc₁⟩ := hs.exists_sourceStep
    obtain ⟨t₂, ht₂, hsrc₂⟩ := hs₂.exists_sourceStep
    obtain ⟨hpix, hline, hcol, hrow⟩ := hsrc₁.grid_withProcessorOf hsrc₂
    exact ⟨(s.tpRgb_withProcessorOf u).symm, (s.stRgb_withProcessorOf u).symm, t₁, t₂, ht₁, ht₂, hpix, hline, hcol, hrow,
      hsrc₁.still_withProcessorOf hsrc₂⟩
  case processor =>
    obtain ⟨u, rfl⟩ : ∃ u, s₂ = (s.withTestPatternOf u).withStillOf u := ⟨s₂, heq⟩
    obtain ⟨t₁, t₂, ht₁, ht₂, hpc, hy, hframe, hlanes⟩ := hs.processor_withGeneratorsOf hs₂
    obtain ⟨-, hrst₁, -⟩ := hs
    obtain ⟨-, hrst₂, -⟩ := hs₂
    have hsrc₁ := step_sourceStep hrst₁ ht₁
    have hsrc₂ := step_sourceStep hrst₂ ht₂
    exact ⟨t₁, t₂, ht₁, ht₂, hpc, hy, hframe, hlanes, hsrc₁.raster_withGeneratorsOf hsrc₂⟩
  case testPattern =>
    obtain ⟨u, rfl⟩ : ∃ u, s₂ = s.withStillOf u := ⟨s₂, heq⟩
    obtain ⟨t₁, ht₁, hsrc₁⟩ := hs.exists_sourceStep
    obtain ⟨t₂, ht₂, hsrc₂⟩ := hs₂.exists_sourceStep
    exact ⟨(s.tpRgb_withStillOf u).symm, t₁, t₂, ht₁, ht₂, hsrc₁.grid_withStillOf hsrc₂⟩
  case still =>
    obtain ⟨u, rfl⟩ : ∃ u, s₂ = s.withTestPatternOf u := ⟨s₂, heq⟩
    obtain ⟨t₁, ht₁, hsrc₁⟩ := hs.exists_sourceStep
    obtain ⟨t₂, ht₂, hsrc₂⟩ := hs₂.exists_sourceStep
    exact ⟨(s.stRgb_withTestPatternOf u).symm, t₁, t₂, ht₁, ht₂, hsrc₁.still_withTestPatternOf hsrc₂⟩

/-- Settles O56, case by case of R342 and R343. -/
theorem testPatternStep : Obligations.TestPatternStep := by
  unfold Obligations.TestPatternStep
  intro s hs htp
  obtain ⟨t, ht, hsrc⟩ := hs.exists_sourceStep
  refine ⟨t, ht, ?_⟩
  rw [hsrc.pixCount, hsrc.cellColCount, hsrc.lineCount, hsrc.cellRowCount]
  simp only [htp, if_true]
  refine ⟨fun ha => ⟨State.nextPixCount_of_not_active ha, State.nextCellCol_of_not_active ha⟩,
    fun ha hend => ?cellEnds, fun ha hne => ?inCell,
    fun hv => ⟨State.nextLineCount_of_not_vActive hv, State.nextCellRow_of_not_vActive hv⟩,
    fun ha hx hend => ?rowEnds, fun ha hx hne => ?inRow, fun hv hnl => ?inLine⟩
  case cellEnds =>
    rw [State.nextPixCount_of_active ha, State.nextCellCol_of_active ha, if_pos hend, if_pos hend]
    exact ⟨rfl, rfl⟩
  case inCell =>
    rw [State.nextPixCount_of_active ha, State.nextCellCol_of_active ha, if_neg hne, if_neg hne]
    exact ⟨rfl, rfl⟩
  case rowEnds =>
    have hl := State.lastPixel_iff.mpr ⟨ha, hx⟩
    rw [State.nextLineCount_of_lastPixel hl, State.nextCellRow_toNat_of_lastPixel hl, if_pos hend, if_pos hend]
    exact ⟨rfl, rfl⟩
  case inRow =>
    have hl := State.lastPixel_iff.mpr ⟨ha, hx⟩
    have hrow := State.nextCellRow_toNat_of_lastPixel hl
    rw [if_neg hne] at hrow
    rw [State.nextLineCount_of_lastPixel hl, if_neg hne]
    exact ⟨rfl, BitVec.eq_of_toNat_eq hrow⟩
  case inLine =>
    have hl : s.lastPixel = false := Bool.eq_false_iff.mpr (mt State.lastPixel_iff.mp hnl)
    exact ⟨State.nextLineCount_of_not_lastPixel hv hl, State.nextCellRow_of_not_lastPixel hv hl⟩

/-- Settles O57: the channels of a placed value are the channels placed, each gated by its bit. -/
theorem testPatternOutput : Obligations.TestPatternOutput := by
  unfold Obligations.TestPatternOutput
  refine fun s => ⟨State.tpRgb_of_not_active, fun ha hcol gate hgate => ?_⟩
  have hlt := State.gatedChannel_lt hcol
  rw [State.tpRgb_of_active ha, RgbOrder.red_place _ _ (hlt 0) (hlt 1) (hlt 2),
    RgbOrder.green_place _ _ (hlt 0) (hlt 1) (hlt 2), RgbOrder.blue_place _ _ (hlt 0) (hlt 1) (hlt 2),
    ← State.gate_of_getElem? hgate]
  exact ⟨rfl, rfl, rfl⟩

/-- Settles O59, case by case of R348 to R350. -/
theorem stillStep : Obligations.StillStep := by
  unfold Obligations.StillStep
  intro s hs hst
  obtain ⟨t, ht, hsrc⟩ := hs.exists_sourceStep
  refine ⟨t, ht, State.ex_of_newLine, State.ex_of_not_newLine, State.ey_of_newFrame, State.ey_of_newLine,
    State.ey_of_not_newLine, State.stRgb_of_not_active, State.stRgb_of_lt, State.stRgb_of_le, ?_⟩
  rw [hsrc.sx, hsrc.sy, if_pos hst, if_pos hst]
  exact ⟨fun ha => ⟨State.nextSx_of_active ha, State.nextSy_of_active ha⟩,
    fun ha => ⟨State.nextSx_of_not_active ha, State.nextSy_of_not_active ha⟩⟩

end Sys2Proof

/-! PROOFS. The configuration checks (60_exceptions.md R380 to R391): which reasons each group of checks gives and when, that
the step is refused exactly where there is one, and that a core whose checks passed runs for ever. -/

namespace Sys2Proof

/-! ### The reasons each group of checks gives -/

section groups
variable {e : ConfigError} {c : Config}

theorem mem_configErrors : e ∈ configErrors c ↔
    e ∈ timingErrors .h c.res.h ∨ e ∈ timingErrors .v c.res.v ∨ e ∈ parameterErrors c ∨ e ∈ programErrors c ∨
      e ∈ strideErrors c ∨ e ∈ testPatternErrors c ∨ e ∈ imageErrors c := by
  simp only [configErrors, List.mem_append, or_assoc]

@[simp] theorem mem_timingErrors {a : Axis} {t : ScanTimings} : e ∈ timingErrors a t ↔
    (e = .badTiming a .syncPulse ∧ t.syncPulse = 0) ∨ (e = .badTiming a .backPorch ∧ t.backPorch = 0) ∨
      (e = .badTiming a .visible ∧ t.visible = 0) := by
  simp only [timingErrors, List.mem_append, List.mem_ite_nil_left, List.mem_singleton, Nat.pos_iff_ne_zero, not_not,
    and_comm, or_assoc]

@[simp] theorem mem_parameterErrors : e ∈ parameterErrors c ↔
    (e = .badParameter .w ∧ c.regWidth < 3 * c.colorDepth) ∨ (e = .badParameter .g ∧ c.gOk = false) ∨
      (e = .badParameter .c ∧ c.colorDepth = 0) ∨ (e = .badParameter .n ∧ c.n = 0) ∨
      (e = .badParameter .fw ∧ c.frameWidth ≠ c.regWidth) := by
  simp only [parameterErrors, List.mem_append, List.mem_ite_nil_left, List.mem_singleton, Nat.one_le_iff_ne_zero,
    Nat.not_le, Bool.not_eq_true, not_not, ne_eq, and_comm, or_assoc]

@[simp] theorem mem_programErrors : e ∈ programErrors c ↔
    (e = .programSize ∧ c.programSizeOk = false) ∨
      (c.gOk = true ∧ ∃ k, e = .invalidInstruction k ∧ c.prog.findIdx? (fun w => !validFields c.format w) = some k) := by
  simp only [programErrors, List.mem_append, List.mem_ite_nil_left, List.mem_ite_nil_right, List.mem_singleton,
    Bool.not_eq_true]
  refine or_congr and_comm (and_congr_right fun _ => ?_)
  cases c.prog.findIdx? fun w => !validFields c.format w with
  | none => simp
  | some k => simp

@[simp] theorem mem_strideErrors : e ∈ strideErrors c ↔ e = .strideNotDivisor ∧ c.width % c.n ≠ 0 := by
  rw [strideErrors, List.mem_ite_nil_left, List.mem_singleton, and_comm]

@[simp] theorem mem_testPatternErrors : e ∈ testPatternErrors c ↔
    e = .testPatternTooSmall ∧ c.testPattern = true ∧ (c.cellWidth = 0 ∨ c.cellHeight = 0) := by
  rw [testPatternErrors, List.mem_ite_nil_left, List.mem_singleton, and_comm]
  simp [Nat.one_le_iff_ne_zero, imp_iff_not_or]

@[simp] theorem mem_imageErrors : e ∈ imageErrors c ↔ e = .imageSize ∧ c.still = true ∧
    (c.img.size ≠ c.width * c.height ∨ ∃ x ∈ c.img.cells, 2 ^ (3 * c.colorDepth) ≤ x.2) := by
  rw [imageErrors, List.mem_ite_nil_left, List.mem_singleton, and_comm]
  simp [imp_iff_not_or]

end groups

/-! ### Each reason, among all checks -/

/-- The timing of one axis (R386). -/
def Resolution.axis (r : Resolution) : Axis → ScanTimings
  | .h => r.h
  | .v => r.v

section reasons
variable {c : Config}

/-- A reason names its axis, and only the checks of that axis give it. -/
theorem badTiming_mem_configErrors {a : Axis} {f : TimingField} : .badTiming a f ∈ configErrors c ↔
    .badTiming a f ∈ timingErrors a (c.res.axis a) := by
  cases a <;> simp [mem_configErrors, Resolution.axis]

theorem badParameter_mem_configErrors {x : Param} :
    .badParameter x ∈ configErrors c ↔ .badParameter x ∈ parameterErrors c := by
  simp [mem_configErrors]

theorem programSize_mem_configErrors : .programSize ∈ configErrors c ↔ c.programSizeOk = false := by
  simp [mem_configErrors]

theorem invalidInstruction_mem_configErrors {k : Nat} : .invalidInstruction k ∈ configErrors c ↔
    c.gOk = true ∧ c.prog.findIdx? (fun w => !validFields c.format w) = some k := by
  simp [mem_configErrors]

theorem strideNotDivisor_mem_configErrors : .strideNotDivisor ∈ configErrors c ↔ c.width % c.n ≠ 0 := by
  simp [mem_configErrors]

theorem testPatternTooSmall_mem_configErrors : .testPatternTooSmall ∈ configErrors c ↔
    c.testPattern = true ∧ (c.cellWidth = 0 ∨ c.cellHeight = 0) := by
  simp [mem_configErrors]

theorem imageSize_mem_configErrors : .imageSize ∈ configErrors c ↔ c.still = true ∧
    (c.img.size ≠ c.width * c.height ∨ ∃ x ∈ c.img.cells, 2 ^ (3 * c.colorDepth) ≤ x.2) := by
  simp [mem_configErrors]

end reasons

theorem gOk_iff {c : Config} : c.gOk = true ↔ 4 ≤ c.g ∧ c.g ≤ 7 := by
  simp [Config.gOk]

/-- Both axes of every preset pass (R151, R386). -/
theorem timingErrors_preset {r : Resolution} (hr : r ∈ presets) (a : Axis) : timingErrors a (r.axis a) = [] := by
  rw [timingErrors_eq_nil]
  cases a with
  | h => exact (by decide : ∀ r ∈ presets, 0 < r.h.syncPulse ∧ 0 < r.h.backPorch ∧ 0 < r.h.visible) r hr
  | v => exact (by decide : ∀ r ∈ presets, 0 < r.v.syncPulse ∧ 0 < r.v.backPorch ∧ 0 < r.v.visible) r hr

/-! ### The first word with a reserved field -/

/-- A word's fields are valid exactly if none is reserved (R118). -/
theorem validFields_iff_unreserved {f : Format} (hg : f.g ≤ 7) (w : Nat) :
    validFields f w = true ↔ Machine.Unreserved f w :=
  validFields_iff.trans (exists_decodeFields_iff hg (splitWord f w))

/-- Position `k` holds the first entry that satisfies `p`. -/
theorem findIdx?_eq_some_iff_getElem? {α : Type} {l : List α} {p : α → Bool} {k : Nat} : l.findIdx? p = some k ↔
    (∃ x, l[k]? = some x ∧ p x = true) ∧ ∀ j, j < k → ∀ x, l[j]? = some x → p x = false := by
  rw [List.findIdx?_eq_some_iff_getElem]
  constructor
  · rintro ⟨hk, hp, hbefore⟩
    refine ⟨⟨_, List.getElem?_eq_getElem hk, hp⟩, fun j hj x hx => ?_⟩
    obtain ⟨_, rfl⟩ := List.getElem?_eq_some_iff.mp hx
    exact Bool.eq_false_iff.mpr (hbefore j hj)
  · rintro ⟨⟨x, hx, hp⟩, hbefore⟩
    obtain ⟨hk, rfl⟩ := List.getElem?_eq_some_iff.mp hx
    exact ⟨hk, hp, fun j hj => Bool.eq_false_iff.mp (hbefore j hj _ (List.getElem?_eq_getElem (hj.trans hk)))⟩

/-! ### The reason reported -/

/-- The reason reported is one of the failing checks, whichever the free choice is (R385). -/
theorem reportedError_mem (c : Config) (e : ConfigError) (es : List ConfigError) : reportedError c e es ∈ e :: es := by
  cases es with
  | nil => exact List.mem_singleton_self e
  | cons e' es =>
    have hlt : Config.reportedReason c % ((e' :: es).length + 1) < (e :: e' :: es).length := Nat.mod_lt _ (Nat.succ_pos _)
    rw [reportedError, List.getD_eq_getElem _ _ hlt]
    exact List.getElem_mem hlt

namespace Machine

/-! ### The step is refused exactly where a check fails -/

section refusal
variable {s : State}

theorem step_of_configErrors {e : ConfigError} {es : List ConfigError} (h : configErrors s.cfg = e :: es) :
    step s = .refused (.config (reportedError s.cfg e es)) := by
  simp [step, h]

theorem step_of_no_fetch (hok : configErrors s.cfg = []) (hrst : s.rst = false) (hpp : s.cfg.pixelProcessor = true)
    (hfetch : s.fetch = none) : step s = .fault .fetchOutsideProgram := by
  simp [step, hok, hrst, hpp, hfetch]

/-- Past the checks a step ends in a next state, or in a fault where there is no instruction to fetch. -/
theorem step_next_or_fault (hok : configErrors s.cfg = []) : (∃ t, step s = .next t) ∨ ∃ r, step s = .fault r := by
  cases hrst : s.rst with
  | true => exact .inl ⟨_, step_of_rst hok hrst⟩
  | false =>
    cases hpp : s.cfg.pixelProcessor with
    | false => exact .inl ⟨_, step_of_no_processor hok hrst hpp⟩
    | true =>
      cases hfetch : s.fetch with
      | none => exact .inr ⟨_, step_of_no_fetch hok hrst hpp hfetch⟩
      | some i =>
        obtain ⟨op, hexec⟩ := exec_runs_lanes i s
        exact .inl ⟨_, step_of_fetch hok hrst hpp hfetch hexec⟩

end refusal

/-! ### A core whose checks passed runs for ever -/

section running
variable {s : State} (h : s.InRange) (hok : configErrors s.cfg = [])
include h hok

theorem State.InRange.pc_lt : s.pc < s.cfg.p := by
  have hpc := h.pc
  rwa [max_eq_left (Config.p_pos hok)] at hpc

/-- The core answers every edge, a reset edge or a tick (R380, R410). -/
theorem State.InRange.exists_step : ∃ t, step s = .next t := by
  cases hrst : s.rst with
  | true => exact ⟨_, step_of_rst hok hrst⟩
  | false => exact State.Ticks.exists_step ⟨hok, hrst, fun _ => h.pc_lt hok⟩

end running

/-- No step changes the configuration (R46). -/
theorem step_cfg {s t : State} (h : step s = .next t) : t.cfg = s.cfg := by
  obtain ⟨-, ⟨-, rfl⟩ | ⟨-, -, rfl⟩ | ⟨-, -, i, op, -, -, rfl⟩⟩ := step_next_cases h
  · rfl
  · rfl
  · rfl

/-- A state in range is followed by states in range for as long as one looks, under any inputs (R380). -/
theorem State.InRange.exists_reaches {s : State} (h : s.InRange) (hok : configErrors s.cfg = []) (k : Nat) :
    ∃ t, Reaches s k t ∧ t.cfg = s.cfg ∧ t.InRange := by
  induction k with
  | zero => exact ⟨s, rfl, rfl, h⟩
  | succ k ih =>
    obtain ⟨u, hu, hcfg, hin⟩ := ih
    obtain ⟨t, ht⟩ := hin.exists_step (hcfg ▸ hok)
    exact ⟨t, ⟨u, hu, ht⟩, (step_cfg ht).trans hcfg, step_inRange hin ht⟩

end Machine

/-! ### The statements -/

open Machine

/-- Settles O37: each step is answered and keeps the ranges, in which reset begins. -/
theorem runsForEver : Obligations.RunsForEver := by
  unfold Obligations.RunsForEver
  refine ⟨fun s hok hs => hs.exists_step hok.1, fun c is hok k => ?_⟩
  obtain ⟨t, ht, -, hin⟩ := (State.resetWith_inRange hok is).exists_reaches hok.1 k
  exact ⟨t, ht, hin⟩

/-- Settles O29: the reason is drawn from the failing checks, and past the checks no instruction is refused. -/
theorem refusesExactlyFailingConfigurations : Obligations.RefusesExactlyFailingConfigurations := by
  unfold Obligations.RefusesExactlyFailingConfigurations
  refine fun s => ⟨fun hne => ?fails, fun hok r hr => ?passes⟩
  case fails =>
    obtain ⟨e, es, hes⟩ := List.exists_cons_of_ne_nil hne
    exact ⟨_, hes ▸ reportedError_mem s.cfg e es, step_of_configErrors hes⟩
  case passes =>
    rcases step_next_or_fault hok with ⟨t, ht⟩ | ⟨f, hf⟩
    · cases ht.symm.trans hr
    · cases hf.symm.trans hr

/-- Settles O30: only the checks of an axis give a reason that names it, and the presets pass them. -/
theorem timingFieldsChecked : Obligations.TimingFieldsChecked := by
  unfold Obligations.TimingFieldsChecked
  refine ⟨fun c f => ⟨?h, ?v⟩, fun c a f hpreset => ?presets⟩
  case h | v => simp [badTiming_mem_configErrors, Resolution.axis]
  case presets =>
    rw [badTiming_mem_configErrors, timingErrors_preset hpreset a]
    exact List.not_mem_nil

/-- Settles O31: a reserved field is one that does not decode, and the first word with one is reported. -/
theorem programChecked : Obligations.ProgramChecked := by
  unfold Obligations.ProgramChecked
  intro c hlo hhi
  have hg : c.gOk = true := gOk_iff.mpr ⟨hlo, hhi⟩
  refine ⟨?size, fun k => ?words⟩
  case size => rw [programSize_mem_configErrors, ← Config.programSizeOk_iff hg, Bool.not_eq_true]
  case words =>
    have hvalid (w : Nat) : validFields c.format w = true ↔ Unreserved c.format w := validFields_iff_unreserved hhi w
    rw [invalidInstruction_mem_configErrors, findIdx?_eq_some_iff_getElem?]
    simp only [hg, true_and, Bool.not_eq_true', Bool.not_eq_false', ← hvalid, Bool.not_eq_true]

/-- Settles O32, check by check. -/
theorem strideGeneratorsAndParametersChecked : Obligations.StrideGeneratorsAndParametersChecked := by
  unfold Obligations.StrideGeneratorsAndParametersChecked
  intro c
  refine ⟨fun _ => strideNotDivisor_mem_configErrors, testPatternTooSmall_mem_configErrors, imageSize_mem_configErrors,
    ?w, ?g, ?c, ?n, ?fw⟩
  case w | c | n | fw => simp [badParameter_mem_configErrors]
  case g => simp [badParameter_mem_configErrors, ← gOk_iff]

end Sys2Proof

/-! PROOFS. Reset (70_reset_and_hazards.md R410 to R415, R427): what the reset edge leaves, that the run after it is the run
after power-on, and that run up to the edge of its first frame pulse. -/

namespace Sys2Proof

/-- The frame counter can count (R391): its width is that of a register, which holds a packed value. -/
theorem Config.frameWidth_pos {c : Config} (h : configErrors c = []) : 0 < c.frameWidth := by
  obtain ⟨-, -, hparam, -⟩ := configErrors_eq_nil.mp h
  simp only [parameterErrors, List.append_eq_nil_iff, ite_eq_left_iff, List.cons_ne_nil, imp_false, not_not] at hparam
  obtain ⟨⟨⟨⟨hw, -⟩, hc⟩, -⟩, hfw⟩ := hparam
  omega

/-- The tick of the frame at which its pulse stands: `t0` (R413). -/
def Config.pulseTick (c : Config) : Nat := c.res.v.prescan * c.res.h.fullscan + c.res.h.prescan

theorem Config.pulseTick_eq (c : Config) : c.pulseTick = c.res.h.prescan + c.res.h.fullscan * c.res.v.prescan := by
  rw [Config.pulseTick, Nat.mul_comm, Nat.add_comm]

theorem Config.hPrescan_lt {c : Config} (h : configErrors c = []) : c.res.h.prescan < c.res.h.fullscan :=
  ScanTimings.prescan_add_lt_fullscan (Config.width_pos h)

theorem Config.pulseTick_lt {c : Config} (h : configErrors c = []) :
    c.pulseTick < c.res.h.fullscan * c.res.v.fullscan := by
  rw [Config.pulseTick_eq]
  exact Machine.lineMajor_lt (Config.hPrescan_lt h) (ScanTimings.prescan_add_lt_fullscan (Config.height_pos h))

namespace Machine

/-! ### The run after a reset edge -/

/-- A run of `k + 1` steps is its first step and a run of `k` steps. -/
theorem reaches_succ_iff {s u t : State} (h : step s = .next u) {k : Nat} : Reaches s (k + 1) t ↔ Reaches u k t := by
  refine ⟨fun ht => ?_, reaches_cons h⟩
  induction k generalizing t with
  | zero =>
    obtain ⟨v, rfl, hv⟩ := ht
    exact Host.Outcome.next.inj (hv.symm.trans h)
  | succ k ih =>
    obtain ⟨v, hv, hstep⟩ := ht
    exact ⟨v, ih hv, hstep⟩

/-- Every lane after reset has its registers at 0 (R412). -/
theorem State.eq_reset_of_mem_resetWith {c : Config} {is : List TickInput} {ln : Lane}
    (h : ln ∈ (State.resetWith c is).lanes) : ln = Lane.reset c.g := by
  rw [State.resetWith_lanes] at h
  exact List.eq_of_mem_replicate h

/-- Of the ranges that of `pc` alone looks at the program, and `pc` may be 0 under any (R32; log 5). -/
theorem State.InRange.of_loadProgram {s : State} {ws : List Nat}
    (h : State.InRange { s with cfg := s.cfg.loadProgram ws }) (hpc : s.pc = 0) : s.InRange :=
  { h with pc := by rw [hpc]; exact lt_max_of_lt_right Nat.one_pos }

/-! ### The frame's pulse by the tick of the frame -/

section pulse
variable {s : State}

theorem State.InRange.scanCounter_eq (h : s.InRange) : s.scanCounter = s.frameTick % s.cfg.res.h.fullscan := by
  rw [State.frameTick, Nat.add_mul_mod_self_left, Nat.mod_eq_of_lt h.scan]

theorem State.InRange.lineCounter_eq (h : s.InRange) : s.lineCounter = s.frameTick / s.cfg.res.h.fullscan := by
  rw [State.frameTick, Nat.add_mul_div_left _ _ (Nat.zero_lt_of_lt h.scan), Nat.div_eq_of_lt h.scan, Nat.zero_add]

theorem State.InRange.newFrame_iff_frameTick (h : s.InRange) (hok : configErrors s.cfg = []) :
    s.newFrame = true ↔ s.frameTick = s.cfg.pulseTick := by
  rw [Config.pulseTick_eq, h.frameTick_eq_iff (Config.hPrescan_lt hok), State.newFrame_iff]

/-- No tick of a frame before its pulse is active: the pulse is at the first pixel of the first visible line. -/
theorem State.pulseTick_le_of_active (h : s.active = true) : s.cfg.pulseTick ≤ s.frameTick := by
  obtain ⟨hh, hv⟩ := State.active_iff.mp h
  rw [Config.pulseTick_eq]
  exact Nat.add_le_add (State.hActive_iff.mp hh).1 (Nat.mul_le_mul_left _ (State.vActive_iff.mp hv).1)

theorem State.nextFrame_of_newFrame (h : s.newFrame = true) :
    s.nextFrame = (s.frameCounter + 1) % 2 ^ s.cfg.frameWidth := if_pos h

theorem State.nextFrame_of_not_newFrame (h : s.newFrame = false) : s.nextFrame = s.frameCounter :=
  if_neg (Bool.eq_false_iff.mp h)

/-- Only a frame pulse moves the frame counter, whether the Pixel Processor is there or not (R310). -/
theorem step_frameCounter {t : State} (hrst : s.rst = false) (hnf : s.newFrame = false) (h : step s = .next t) :
    t.frameCounter = s.frameCounter := by
  obtain ⟨c, -, rfl⟩ := step_eq_clockEdge hrst h
  rw [State.clockEdge_frameCounter, State.nextFrame_of_not_newFrame hnf, ite_self]

/-- The edge of a frame pulse brings each lane to its own number (R308). -/
theorem SequencerStep.xCoords_of_newFrame {t : State} {i : Instr} (h : SequencerStep s i t) (hnf : s.newFrame = true) :
    t.lanes.map Lane.xCoord = List.range s.lanes.length := by
  refine List.ext_getElem (by simp [h.laneCount]) fun l hl _ => ?_
  have hlt : l < t.lanes.length := by simpa using hl
  obtain ⟨ln, -, hx⟩ := h.exists_lane (List.getElem?_eq_getElem hlt)
  rw [List.getElem_map, hx, State.nextX_of_reset (.inl hnf), List.getElem_range]

end pulse

/-! ### The run from reset up to its first frame pulse -/

section firstFrame
variable {c : Config} {is : List TickInput} (hok : ValidConfig c) (hnr : NoReset is)
include hok hnr

theorem State.resetWith_ticksOn : (State.resetWith c is).TicksOn := ⟨hok.1, State.resetWith_inRange hok is, hnr⟩

variable {k : Nat} {t : State} (hrun : Run c is k t)
include hrun

/-- Reset begins a frame, so `k` ticks after it `k` ticks of the frame are over, modulo its length. -/
theorem Run.frameTick_eq :
    t.TicksOn ∧ t.cfg = c ∧ t.frameTick = k % (c.res.h.fullscan * c.res.v.fullscan) := by
  obtain ⟨hon, hcfg, htick⟩ := (State.resetWith_ticksOn hok hnr).reaches hrun
  exact ⟨hon, hcfg, by simpa [State.frameTick] using htick⟩

theorem Run.counters_eq :
    t.scanCounter = k % c.res.h.fullscan ∧ t.lineCounter = k / c.res.h.fullscan % c.res.v.fullscan := by
  obtain ⟨hon, hcfg, htick⟩ := Run.frameTick_eq hok hnr hrun
  rw [hon.inRange.scanCounter_eq, hon.inRange.lineCounter_eq, hcfg, htick]
  exact ⟨Nat.mod_mul_right_mod .., Nat.mod_mul_right_div_self ..⟩

theorem Run.active_eq_false (hk : k < c.pulseTick) : t.active = false := by
  obtain ⟨-, hcfg, htick⟩ := Run.frameTick_eq hok hnr hrun
  rw [← Bool.not_eq_true]
  intro ha
  have hle := State.pulseTick_le_of_active ha
  rw [hcfg, htick] at hle
  exact absurd (hle.trans (Nat.mod_le ..)) (Nat.not_le.mpr hk)

theorem Run.newFrame_eq_false (hk : k < c.pulseTick) : t.newFrame = false := by
  obtain ⟨hon, -, -⟩ := Run.frameTick_eq hok hnr hrun
  exact State.newFrame_of_not_active hon.checked (Run.active_eq_false hok hnr hrun hk)

theorem Run.newFrame_at_pulseTick (hk : k = c.pulseTick) : t.newFrame = true := by
  obtain ⟨hon, hcfg, htick⟩ := Run.frameTick_eq hok hnr hrun
  rw [hon.inRange.newFrame_iff_frameTick hon.checked, htick, hcfg, hk]
  exact Nat.mod_eq_of_lt (Config.pulseTick_lt hok.1)

/-- Until the first frame pulse the frame counter keeps its reset value (R310, R412). -/
theorem Run.frameCounter_eq_zero (hk : k ≤ c.pulseTick) : t.frameCounter = 0 := by
  induction k generalizing t with
  | zero =>
    obtain rfl : t = State.resetWith c is := hrun
    rfl
  | succ k ih =>
    obtain ⟨s, hs, hstep⟩ := hrun
    obtain ⟨hon, -, -⟩ := Run.frameTick_eq hok hnr hs
    rw [step_frameCounter hon.rst (Run.newFrame_eq_false hok hnr hs hk) hstep, ih hs (Nat.le_of_succ_le hk)]

/-- What the edge of the first frame pulse leaves in the Pixel Processor (R311, R413). -/
theorem Run.processor_after_pulse (hk : k = c.pulseTick + 1) (hpp : c.pixelProcessor = true) :
    t.pc = 0 ∧ t.yCoord = 0 ∧ t.frameCounter = 1 ∧ t.lanes.map Lane.xCoord = List.range c.n := by
  subst hk
  obtain ⟨s, hs, hstep⟩ := hrun
  obtain ⟨hon, hcfg, -⟩ := Run.frameTick_eq hok hnr hs
  obtain ⟨i, u, -, hu, hseq⟩ := State.PpTicks.exists_step ⟨hon.ticks, hcfg ▸ hpp⟩
  obtain rfl : u = t := Host.Outcome.next.inj (hu.symm.trans hstep)
  have hnf := Run.newFrame_at_pulseTick hok hnr hs rfl
  refine ⟨?pc, ?y, ?frame, ?lanes⟩
  case pc => rw [hseq.pc, State.nextPc_of_newFrame hnf]
  case y => rw [hseq.y, State.nextY_of_newFrame hnf]
  case frame =>
    rw [hseq.frame, State.nextFrame_of_newFrame hnf, Run.frameCounter_eq_zero hok hnr hs le_rfl, Nat.zero_add]
    exact Nat.mod_eq_of_lt (Nat.one_lt_two_pow (Config.frameWidth_pos hon.checked).ne')
  case lanes => rw [hseq.xCoords_of_newFrame hnf, hon.inRange.laneCount, hcfg]

end firstFrame

end Machine

/-! ### The statements -/

open Machine

/-- Settles O46: reset begins a frame, whose ticks are counted from there and whose pulse is the first. -/
theorem firstFrameAfterReset : Obligations.FirstFrameAfterReset := by
  unfold Obligations.FirstFrameAfterReset
  intro c is hok hnr k
  obtain ⟨t, hrun, hon⟩ := (State.resetWith_ticksOn hok hnr).exists_reaches k
  have hrun : Run c is k t := hrun
  obtain ⟨hscan, hline⟩ := Run.counters_eq hok hnr hrun
  refine ⟨t, hrun, hscan, hline, fun hk => ?before, fun hk => ?pulse, Run.processor_after_pulse hok hnr hrun⟩
  case before => exact ⟨Run.active_eq_false hok hnr hrun hk, Run.newFrame_eq_false hok hnr hrun hk⟩
  case pulse =>
    have hnf := Run.newFrame_at_pulseTick hok hnr hrun hk
    exact ⟨State.active_of_newFrame hon.checked hnf, hnf⟩

/-- Settles O38: an instruction is a commit to one register or latch of each lane, and leaves its coordinate alone. -/
theorem tablesAreReadOnly : Obligations.TablesAreReadOnly := by
  unfold Obligations.TablesAreReadOnly
  refine ⟨fun s t => step_cfg, fun i s => ?_⟩
  obtain ⟨op, hexec⟩ := exec_runs_lanes i s
  refine ⟨_, hexec, s.runLanes_frame .., ?_⟩
  rw [State.runLanes_lanes, List.map_map]
  exact List.map_congr_left fun ln _ => Lane.commit_xCoord ..

/-- Settles O39: the step is the reset edge, and its lanes are lanes after reset. -/
theorem resetOverridesEverything : Obligations.ResetOverridesEverything := by
  unfold Obligations.ResetOverridesEverything
  intro s hok hrst
  refine ⟨s.resetEdge, step_of_rst hok hrst, rfl, rfl, rfl, rfl, rfl, rfl, List.length_replicate, fun ln hln => ?lanes,
    rfl, rfl, rfl, rfl, rfl, rfl⟩
  case lanes =>
    obtain rfl := State.eq_reset_of_mem_resetWith hln
    exact ⟨rfl, rfl, List.length_replicate, fun v hv => List.eq_of_mem_replicate hv⟩

/-- Settles O40: the reset edge is a step to the state of power-on. -/
theorem resetReproducesThePowerOnRun : Obligations.ResetReproducesThePowerOnRun := by
  unfold Obligations.ResetReproducesThePowerOnRun
  intro s hok hrst k t
  exact reaches_succ_iff (step_of_rst hok hrst)

/-- Settles O36: `State.reset` is the reset state of a configuration that may run, but for a program (NOT of register 0
into itself, the word 0). -/
theorem resetIsInRange : Obligations.ResetIsInRange := by
  unfold Obligations.ResetIsInRange
  refine ⟨?canonical, fun c is hok => State.resetWith_inRange hok is⟩
  case canonical =>
    have hok : ValidConfig (Config.canonical.loadProgram [0]) := by decide
    exact State.InRange.of_loadProgram (State.resetWith_inRange hok []) rfl

end Sys2Proof
